-- ==== Sys2Proof/Word.lean ====
section
/-! DEFINITION. The two widths of the machine: 8-bit data and 16-bit addresses (00_scope.md R4). -/

namespace Sys2Proof

/-- A datum of the bus or of an 8-bit register (R4). -/
abbrev Byte := BitVec 8

/-- An address, a register pair, SP or PC (R4). -/
abbrev Word := BitVec 16

end Sys2Proof
end

