-- ==== Sys2Proof/Machine/Bits.lean ====
section
/-! DEFINITION. Bit-field, byte-order and sign-extension helpers (00_scope.md R7, 20_memory.md R71). -/

namespace Sys2Proof

/-- `lo(v)`: the low byte of a word (R7). -/
def lo (v : Word) : Byte := v.extractLsb' 0 8

/-- `hi(v)`: the high byte of a word (R7). -/
def hi (v : Word) : Byte := v.extractLsb' 8 8

/-- `hi:lo`: the word made of a high and a low byte (R7). -/
def word (h l : Byte) : Word := h ++ l

/-- `sext_16(v)`: an 8-bit value read as signed and widened to 16 bits (R7). -/
def sext16 (v : Byte) : Word := v.signExtend 16

/-- `b(v)` as a carry or borrow input of the widened arithmetic: 1 for true, 0 for false (R7). -/
def bit (v : Bool) : Nat := if v then 1 else 0

/-- The constant `0xFF00 + n` address of the high-RAM shorthand loads (30_encoding.md R92). -/
def highPage (n : Byte) : Word := word 0xFF n

end Sys2Proof
end

