-- ==== Sys2Proof/Machine/Fields.lean ====
section
/-! DEFINITION. The operand fields of the opcode bytes as named alternatives, and how the bits of an opcode
select them (30_encoding.md R90, R93 to R97, R99). -/

namespace Sys2Proof

/-- A 3-bit field (`y` or `z` of an opcode byte), a bit index, or an RST number. -/
inductive Oct | i0 | i1 | i2 | i3 | i4 | i5 | i6 | i7
deriving DecidableEq, Repr

/-- An 8-bit register an operand field can name. F is not among them (R20, R93). -/
inductive Reg8 | b | c | d | e | h | l | a
deriving DecidableEq, Repr

/-- The `r8` operand: a register, or the byte in memory at HL (R93). -/
inductive R8
  | reg (r : Reg8)
  | indHl
deriving DecidableEq, Repr

/-- The `r16` operand (R94). -/
inductive Reg16 | bc | de | hl | sp
deriving DecidableEq, Repr

/-- The `r16stk` operand of PUSH and POP (R95). -/
inductive RegStk | bc | de | hl | af
deriving DecidableEq, Repr

/-- The condition operand (R96). -/
inductive Cond | nz | z | nc | c
deriving DecidableEq, Repr

/-- The eight accumulator operations (R97). -/
inductive AluOp | add | adc | sub | sbc | and | xor | or | cp
deriving DecidableEq, Repr

/-- The eight rotate and shift groups of the prefixed space (R99). -/
inductive ShiftOp | rlc | rrc | rl | rr | sla | sra | swap | srl
deriving DecidableEq, Repr

/-- The field of three bits with value `n mod 8`. -/
def Oct.ofBits (n : Nat) : Oct :=
  match n % 8 with
  | 0 => .i0
  | 1 => .i1
  | 2 => .i2
  | 3 => .i3
  | 4 => .i4
  | 5 => .i5
  | 6 => .i6
  | _ => .i7

/-- The unsigned value of a 3-bit field. -/
def Oct.val : Oct → Nat
  | .i0 => 0
  | .i1 => 1
  | .i2 => 2
  | .i3 => 3
  | .i4 => 4
  | .i5 => 5
  | .i6 => 6
  | .i7 => 7

/-- `x = op[7:6]` (R90). -/
def fieldX (op : Byte) : Nat := op.toNat / 64

/-- `y = op[5:3]` (R90). -/
def fieldY (op : Byte) : Oct := Oct.ofBits (op.toNat / 8)

/-- `z = op[2:0]` (R90). -/
def fieldZ (op : Byte) : Oct := Oct.ofBits op.toNat

/-- The `r8` table (R93). -/
def R8.ofField : Oct → R8
  | .i0 => .reg .b
  | .i1 => .reg .c
  | .i2 => .reg .d
  | .i3 => .reg .e
  | .i4 => .reg .h
  | .i5 => .reg .l
  | .i6 => .indHl
  | .i7 => .reg .a

/-- The ALU operation table (R97). -/
def AluOp.ofField : Oct → AluOp
  | .i0 => .add
  | .i1 => .adc
  | .i2 => .sub
  | .i3 => .sbc
  | .i4 => .and
  | .i5 => .xor
  | .i6 => .or
  | .i7 => .cp

/-- The operation groups of the prefixed space (R99). -/
def ShiftOp.ofField : Oct → ShiftOp
  | .i0 => .rlc
  | .i1 => .rrc
  | .i2 => .rl
  | .i3 => .rr
  | .i4 => .sla
  | .i5 => .sra
  | .i6 => .swap
  | .i7 => .srl

end Sys2Proof
end

