-- ==== Sys2Proof/Machine/Memory.lean ====
section
/-! DEFINITION. Sparse byte memory in one canonical form, used for the bus's RAM arrays (10_state.md R36), for the
ROM image of a cartridge (20_memory.md R55) and for the bootstrap image (R54). -/

namespace Sys2Proof

/-- Bytes by address: addresses strictly rising, no entry equal to `Memory.fill`. -/
abbrev Memory := List Host.Cell

/-- What an unlisted address reads as. DESIGN CHOICE: the spec's `RAM_INIT` is any value, and `BOOT_IMAGE` and the
ROM image are supplied from outside (log entry 1). -/
def Memory.fill : Byte := 0

/-- The byte at an address. -/
def Memory.read : Memory → Nat → Byte
  | [], _ => Memory.fill
  | (k, w) :: m, a => if k = a then w else Memory.read m a

/-- Store one byte, keeping the canonical form: storing `Memory.fill` removes the entry. -/
def Memory.write : Memory → Nat → Byte → Memory
  | [], a, v => if v = Memory.fill then [] else [(a, v)]
  | (k, w) :: m, a, v =>
    if a < k then if v = Memory.fill then (k, w) :: m else (a, v) :: (k, w) :: m
    else if a = k then if v = Memory.fill then m else (a, v) :: m
    else (k, w) :: Memory.write m a v

/-- The canonical form: strictly rising addresses, no entry that reads as an unlisted address does. -/
def Memory.wf : Memory → Bool
  | [] => true
  | (k, w) :: m => w != Memory.fill && m.all (fun c => decide (k < c.1)) && Memory.wf m

/-- The entries whose address lies in `[from_, to_)`. -/
def Memory.window (m : Memory) (from_ to_ : Nat) : Memory :=
  m.filter (fun c => decide (from_ ≤ c.1) && decide (c.1 < to_))

end Sys2Proof
end

