-- ==== Sys2Proof/Config.lean ====
section
/-! DEFINITION. The named parameters of 00_scope.md R5: those with finitely many settings as plain data (`Params`), the
cartridge's data, and as constants without a body what the spec leaves to a collaborator: the cartridge's own logic,
the joypad value, the scanline compositing and the power-on framebuffer. Nothing can be proved of a value of these. -/

namespace Sys2Proof

/-- `UNMAPPED_POLICY` (R5, R67). -/
inductive UnmappedPolicy | sentinel | fault
deriving DecidableEq, Repr

/-- `STOP_MODE` (R5, R253). -/
inductive StopMode | refuse | haltUntilJoypad
deriving DecidableEq, Repr

/-- `RETI_MODE` (R5, R242). -/
inductive RetiMode | delayed | immediate
deriving DecidableEq, Repr

/-- The parameters of R5 that are data, each with the default R5 gives it. `BOOT_IMAGE` has none and is supplied from
outside: here it is empty (log entry 1). -/
structure Params where
  unmappedPolicy : UnmappedPolicy := .sentinel
  rendererTicksPerStep : Nat := 1
  timerCyclesPerStep : Nat := 4
  stopMode : StopMode := .refuse
  retiMode : RetiMode := .delayed
  lcdOffStopsRenderer : Bool := false
  vramOamLock : Bool := false
  bootImage : Memory := []
deriving DecidableEq, Repr

/-- The cartridge variants of R55: the no-banking one, whose ROM accesses the spec gives, and any other, which is known
only through its interface. -/
inductive CartVariant | noBanking | banked
deriving DecidableEq, Repr

/-- `cart` (10_state.md R38): the ROM image, and the rest of the cartridge's own state (its RAM and bank registers) as
bytes in whatever layout the cartridge uses. -/
structure Cart where
  variant : CartVariant := .noBanking
  rom : Memory := []
  own : List Byte := []
deriving DecidableEq, Repr

/-- One framebuffer row: 160 colour indices of two bits (10_state.md R35). -/
abbrev Row := Vector (BitVec 2) 160

/-- All that `RENDER_LINE` may read (R362): VRAM, OAM, LCDC, the scroll and window registers and the palettes. -/
structure RenderView where
  vram : Memory
  oam : Memory
  lcdc : Byte
  scy : Byte
  scx : Byte
  wy : Byte
  wx : Byte
  bgp : Byte
  obp0 : Byte
  obp1 : Byte
deriving DecidableEq, Repr

/-- `CART.read` where the spec does not give its answer: `none` is a failed range check (R55, log entry 3). -/
opaque Config.cartRead : Cart → Nat → Option Byte

/-- `CART.write` where the spec does not give its answer: the cartridge's new own state, or `none` for a failed range
check (R55, log entry 3). -/
opaque Config.cartWrite : Cart → Nat → Byte → Option (List Byte)

/-- `JOYPAD_READ`: the value of the n-th read of 0xFF00, any byte, drawn anew at each read (R66, log entry 4). -/
opaque Config.joypadRead : Nat → Byte

/-- `RENDER_LINE`: the composited row (R362, log entry 5). -/
opaque Config.renderLine : RenderView → Nat → Row

/-- A framebuffer row nothing has rendered yet: unspecified (R400, log entry 5). -/
opaque Config.framebufferInit : Nat → Row

end Sys2Proof
end

