-- ==== Sys2Proof/Machine/State.lean ====
section
/-! DEFINITION. The state of the block (10_state.md), the two ways a run ends (60_exceptions.md R300, R302), and the
state after power-on (70_reset_and_hazards.md R400). -/

namespace Sys2Proof.Machine

/-- The direction of a bus access, part of an invalid access's record (R300). -/
inductive Dir | read | write
deriving DecidableEq, Repr

/-- Why a run has ended in a fault (R300): the record `kind, info`. An instruction or an interrupt dispatch that faults
writes it into `State.outcome` with the effects before it kept (R301); `step` answers `.fault` with it from a state whose
run has so ended. Safe: the machine stops where the spec says that no later tick changes any state. -/
inductive Fault
  /-- Raised by the eleven undefined primary opcodes: the opcode and the address it was fetched from (R257). Safe: the
  spec ends the run there. -/
  | undefinedOpcode (op : Byte) (opPc : Word)
  /-- Raised by a bus access that the cartridge's range check refuses, or to an unmapped address under
  `UNMAPPED_POLICY = Fault` (R55, R67). Safe: the spec ends the run there. -/
  | invalidAccess (addr : Word) (dir : Dir)
deriving DecidableEq, Repr

/-- Why a run has ended in a refusal (R302). -/
inductive Refusal
  /-- Raised by an arm of `exec` whose instruction has no meaning yet; no arm does. Safe. -/
  | notModelled (mnemonic : String)
  /-- Raised by STOP under `STOP_MODE = Refuse`, with the address of the STOP (R253, R302). Safe: the spec ends the run
  there. -/
  | stop (opPc : Word)
deriving DecidableEq, Repr

/-- `outcome` (R32). -/
inductive RunOutcome
  | running
  | faulted (r : Fault)
  | refused (r : Refusal)
deriving DecidableEq, Repr

/-- The renderer's modes (R35). -/
inductive Mode | oamScan | pixelTransfer | hBlank | vBlank
deriving DecidableEq, Repr

/-- The eight 8-bit registers (R20). -/
structure Regs where
  a : Byte := 0
  f : Byte := 0
  b : Byte := 0
  c : Byte := 0
  d : Byte := 0
  e : Byte := 0
  h : Byte := 0
  l : Byte := 0
deriving DecidableEq, Repr

/-- The timer (R34). TAC has three stored bits. -/
structure Timer where
  divCounter : Word := 0
  tima : Byte := 0
  tma : Byte := 0
  tac : BitVec 3 := 0
deriving DecidableEq, Repr

/-- The renderer (R35). `framebuffer` lists the rows rendered so far, by rising row number; a row not listed is as
power-on left it. -/
structure Ppu where
  mode : Mode := .oamScan
  modeClock : Nat := 0
  line : Byte := 0
  lcdc : Byte := 0
  statSel : BitVec 4 := 0
  scy : Byte := 0
  scx : Byte := 0
  lyc : Byte := 0
  dma : Byte := 0
  bgp : Byte := 0
  obp0 : Byte := 0
  obp1 : Byte := 0
  wy : Byte := 0
  wx : Byte := 0
  framebuffer : List (Nat × Row) := []
deriving DecidableEq, Repr

/-- Everything the spec gives the block, and below the line the model's own fields. -/
structure State where
  /-- A, F, B, C, D, E, H, L (R20, R24) -/
  regs : Regs
  /-- the stack pointer (R25) -/
  sp : Word
  /-- the program counter (R26) -/
  pc : Word
  /-- HALT's mode flag (R27) -/
  halted : Bool
  /-- STOP's mode flag (R27) -/
  stopped : Bool
  /-- the interrupt master enable (R28) -/
  ime : Bool
  /-- the delayed-enable latch (R29) -/
  eiPending : Bool
  /-- the free-running cycle counter, unbounded (R30) -/
  clock : Nat
  /-- the busy-cycle counter (R31) -/
  busy : Nat
  /-- how the run stands (R32) -/
  outcome : RunOutcome
  /-- IF, five stored bits (R33, R68) -/
  ifReg : BitVec 5
  /-- IE, eight stored bits (R33, R68) -/
  ie : Byte
  /-- the timer (R34) -/
  timer : Timer
  /-- the renderer (R35) -/
  ppu : Ppu
  /-- VRAM, WRAM, OAM and HRAM, each byte at its bus address, the WRAM mirror at its WRAM address (R36, R56) -/
  ram : Memory
  /-- whether software has disabled the boot overlay (R37) -/
  bootDisabled : Bool
  /-- the cartridge's own state (R38) -/
  cart : Cart
  /-- MODEL'S OWN: the parameters of R5, which no step changes (log entry 2) -/
  params : Params
  /-- MODEL'S OWN: the host's joypad requests still to come, one entry for the gap before each tick (R312, log entry 6) -/
  joypadMoves : List Bool
  /-- MODEL'S OWN: how many reads of 0xFF00 there have been, the index of the next draw (R66, log entry 4) -/
  joypadDraws : Nat
  /-- MODEL'S OWN: what the last tick returned, the frame-boundary bit (R342, R39, log entry 7) -/
  frameBit : Bool
deriving DecidableEq, Repr

/-- The power-on state of R400, for any setting of the parameters, any cartridge, and any power-on contents of the RAM
arrays. -/
def State.powerOn (params : Params) (cart : Cart) (ramInit : Memory) : State :=
  { regs := {}
    sp := 0
    pc := 0
    halted := false
    stopped := false
    ime := false
    eiPending := false
    clock := 0
    busy := 0
    outcome := .running
    ifReg := 0
    ie := 0
    timer := {}
    ppu := {}
    ram := ramInit
    bootDisabled := false
    cart := cart
    params := params
    joypadMoves := []
    joypadDraws := 0
    frameBit := false }

/-- `BOOT_MODE = PostBoot(S0)` (R401): a complete start state with the overlay disabled. -/
def State.postBoot (s0 : State) : State := { s0 with bootDisabled := true, outcome := .running }

/-- The machine right after reset: R400 with the default parameters, an empty boot image, a no-banking cartridge with an
empty ROM image, and RAM with nothing listed (log entry 1). -/
def State.reset : State := State.powerOn {} {} []

end Sys2Proof.Machine
end

