-- ==== Sys2Proof/Machine/Registers.lean ====
section
/-! DEFINITION. Reading and writing the register file: 8-bit registers, the pairs that are views of them, SP, and the
named updates every meaning is built from (10_state.md R20 to R31). -/

namespace Sys2Proof.Machine

/-- `x[r]` (00_scope.md R8). -/
def State.get8 (s : State) : Reg8 → Byte
  | .a => s.regs.a
  | .b => s.regs.b
  | .c => s.regs.c
  | .d => s.regs.d
  | .e => s.regs.e
  | .h => s.regs.h
  | .l => s.regs.l

/-- `x[r] <- v` (R8). -/
def State.set8 (s : State) (r : Reg8) (v : Byte) : State :=
  match r with
  | .a => { s with regs := { s.regs with a := v } }
  | .b => { s with regs := { s.regs with b := v } }
  | .c => { s with regs := { s.regs with c := v } }
  | .d => { s with regs := { s.regs with d := v } }
  | .e => { s with regs := { s.regs with e := v } }
  | .h => { s with regs := { s.regs with h := v } }
  | .l => { s with regs := { s.regs with l := v } }

/-- Every write of F stores `v & 0xF0` (R21). -/
def State.setF (s : State) (v : Byte) : State := { s with regs := { s.regs with f := v &&& 0xF0 } }

/-- `x[AF]` (R22). -/
def State.af (s : State) : Word := word s.regs.a s.regs.f

/-- `x[BC]` (R22). -/
def State.bc (s : State) : Word := word s.regs.b s.regs.c

/-- `x[DE]` (R22). -/
def State.de (s : State) : Word := word s.regs.d s.regs.e

/-- `x[HL]` (R22). -/
def State.hl (s : State) : Word := word s.regs.h s.regs.l

/-- `sp <- v` (R25). -/
def State.setSp (s : State) (v : Word) : State := { s with sp := v }

/-- `pc <- v` (R26). -/
def State.setPc (s : State) (v : Word) : State := { s with pc := v }

/-- `x[rr]` for an `r16` operand, SP included (R22, 30_encoding.md R94). -/
def State.get16 (s : State) : Reg16 → Word
  | .bc => s.bc
  | .de => s.de
  | .hl => s.hl
  | .sp => s.sp

/-- `x[rr] <- v` for an `r16` operand: the high byte to the first register, the low byte to the second (R22, R94). -/
def State.set16 (s : State) (rr : Reg16) (v : Word) : State :=
  match rr with
  | .bc => (s.set8 .b (hi v)).set8 .c (lo v)
  | .de => (s.set8 .d (hi v)).set8 .e (lo v)
  | .hl => (s.set8 .h (hi v)).set8 .l (lo v)
  | .sp => s.setSp v

/-- `x[rr]` for an `r16stk` operand (30_encoding.md R95). -/
def State.getStk (s : State) : RegStk → Word
  | .bc => s.bc
  | .de => s.de
  | .hl => s.hl
  | .af => s.af

/-- `x[rr] <- v` for an `r16stk` operand. Through AF the low byte is masked (R21, R95). -/
def State.setStk (s : State) (rr : RegStk) (v : Word) : State :=
  match rr with
  | .bc => s.set16 .bc v
  | .de => s.set16 .de v
  | .hl => s.set16 .hl v
  | .af => (s.set8 .a (hi v)).setF (lo v)

/-- `busy <- c` (R31). -/
def State.setBusy (s : State) (c : Nat) : State := { s with busy := c }

/-- `IME <- v` (R28). -/
def State.setIme (s : State) (v : Bool) : State := { s with ime := v }

/-- `ei_pending <- v` (R29). -/
def State.setEi (s : State) (v : Bool) : State := { s with eiPending := v }

/-- `halted <- v` (R27). -/
def State.setHalted (s : State) (v : Bool) : State := { s with halted := v }

/-- `stopped <- v` (R27). -/
def State.setStopped (s : State) (v : Bool) : State := { s with stopped := v }

/-- `outcome <- o` (R32). -/
def State.setOutcome (s : State) (o : RunOutcome) : State := { s with outcome := o }

/-- `IF <- v` (R33). -/
def State.setIf (s : State) (v : BitVec 5) : State := { s with ifReg := v }

/-- `IE <- v` (R33). -/
def State.setIe (s : State) (v : Byte) : State := { s with ie := v }

/-- The RAM arrays replaced (R36). -/
def State.setRam (s : State) (m : Memory) : State := { s with ram := m }

/-- The cartridge's state replaced (R38). -/
def State.setCart (s : State) (c : Cart) : State := { s with cart := c }

/-- The timer's state replaced (R34). -/
def State.setTimer (s : State) (t : Timer) : State := { s with timer := t }

/-- The renderer's state replaced (R35). -/
def State.setPpu (s : State) (p : Ppu) : State := { s with ppu := p }

/-- `boot_disabled <- true`; nothing makes it false again (R37). -/
def State.disableBoot (s : State) : State := { s with bootDisabled := true }

end Sys2Proof.Machine
end

