-- ==== Sys2Proof/Machine/Bus.lean ====
section
/-! DEFINITION. The memory bus (20_memory.md): the address map, the byte reads and writes with their faults and side
effects, the I/O registers, the VRAM/OAM gate, the word accesses and the OAM DMA copy. -/

namespace Sys2Proof.Machine

/-- What a sequence of bus accesses gives: a value and the state it leaves, or the state at the access that ended the
run, whose `outcome` is the record (60_exceptions.md R301). -/
inductive Access (α : Type)
  | ok (a : α) (s : State)
  | stop (s : State)
deriving DecidableEq, Repr

/-- Go on with the value and the state; after a stop nothing more happens (R301). -/
def Access.bind {α β : Type} (x : Access α) (k : α → State → Access β) : Access β :=
  match x with
  | .ok a s => k a s
  | .stop s => .stop s

/-- `raise Fault(kind, info)`: the record is written and nothing else (R300). -/
def raiseFault (r : Fault) (s : State) : State := s.setOutcome (.faulted r)

/-- `refuse(reason)` (R302). -/
def refuseRun (r : Refusal) (s : State) : State := s.setOutcome (.refused r)

/-- The regions of the address map (R51). -/
inductive Region | rom | vram | cartRam | wram | echo | oam | hole | io | hram | ie
deriving DecidableEq, Repr

/-- The region an address lies in (R51, R52). -/
def region (a : Word) : Region :=
  if a.toNat ≤ 0x7FFF then .rom
  else if a.toNat ≤ 0x9FFF then .vram
  else if a.toNat ≤ 0xBFFF then .cartRam
  else if a.toNat ≤ 0xDFFF then .wram
  else if a.toNat ≤ 0xFDFF then .echo
  else if a.toNat ≤ 0xFE9F then .oam
  else if a.toNat ≤ 0xFEFF then .hole
  else if a.toNat ≤ 0xFF7F then .io
  else if a.toNat ≤ 0xFFFE then .hram
  else .ie

/-- Where the byte of a RAM address is kept: the mirror at 0xE000 + k is the byte at 0xC000 + k (R51, R56). -/
def ramKey (a : Word) : Nat :=
  match region a with
  | .echo => a.toNat - 0x2000
  | _ => a.toNat

/-- `CART.read(cart, addr)` (R55): the no-banking variant's ROM accesses, else the cartridge's own answer (log entry 3). -/
def cartRead (c : Cart) (addr : Nat) : Option Byte :=
  if c.variant = .noBanking && decide (addr ≤ 0x7FFF) then some (c.rom.read addr) else Config.cartRead c addr

/-- `CART.write(cart, addr, v)` (R55): the no-banking variant discards ROM writes, else the cartridge's own answer. The
ROM image never changes (log entry 3). -/
def cartWrite (c : Cart) (addr : Nat) (v : Byte) : Option Cart :=
  if c.variant = .noBanking && decide (addr ≤ 0x7FFF) then some c
  else (Config.cartWrite c addr v).map (fun own => { c with own := own })

/-- `mode = PixelTransfer` with `VRAM_OAM_LOCK`: VRAM is closed to the CPU (R62). -/
def vramLocked (s : State) : Bool := s.params.vramOamLock && decide (s.ppu.mode = .pixelTransfer)

/-- `mode ∈ OamScan, PixelTransfer` with `VRAM_OAM_LOCK`: OAM is closed to the CPU (R62). -/
def oamLocked (s : State) : Bool :=
  s.params.vramOamLock && (decide (s.ppu.mode = .oamScan) || decide (s.ppu.mode = .pixelTransfer))

/-- `Unmapped(addr, read)`: the sentinel 0xFF, or no value under `UNMAPPED_POLICY = Fault` (R67). -/
def unmappedRead (s : State) : Option Byte :=
  match s.params.unmappedPolicy with
  | .sentinel => some 0xFF
  | .fault => none

/-- `ModeNumber` (R63). -/
def modeNumber : Mode → Nat
  | .hBlank => 0
  | .vBlank => 1
  | .oamScan => 2
  | .pixelTransfer => 3

/-- The byte STAT reads as (R63, R69). -/
def statRead (p : Ppu) : Byte :=
  BitVec.ofNat 8 (0x80 + p.statSel.toNat * 8 + bit (p.line == p.lyc) * 4 + modeNumber p.mode)

/-- `IoRead(addr)` (R63); `none` is an invalid access. -/
def ioRead (s : State) (a : Word) : Option Byte :=
  match a.toNat with
  | 0xFF00 => some (Config.joypadRead s.joypadDraws)
  | 0xFF04 => some (hi s.timer.divCounter)
  | 0xFF05 => some s.timer.tima
  | 0xFF06 => some s.timer.tma
  | 0xFF07 => some (BitVec.ofNat 8 (0xF8 + s.timer.tac.toNat))
  | 0xFF0F => some (BitVec.ofNat 8 (0xE0 + s.ifReg.toNat))
  | 0xFF40 => some s.ppu.lcdc
  | 0xFF41 => some (statRead s.ppu)
  | 0xFF42 => some s.ppu.scy
  | 0xFF43 => some s.ppu.scx
  | 0xFF44 => some s.ppu.line
  | 0xFF45 => some s.ppu.lyc
  | 0xFF46 => some s.ppu.dma
  | 0xFF47 => some s.ppu.bgp
  | 0xFF48 => some s.ppu.obp0
  | 0xFF49 => some s.ppu.obp1
  | 0xFF4A => some s.ppu.wy
  | 0xFF4B => some s.ppu.wx
  | 0xFF50 => some 0xFF
  | _ => unmappedRead s

/-- The byte a bus read of an address gives, without the read itself (R52); `none` is an invalid access. `gated` says
whether the VRAM/OAM gate of R62 applies: it does to every access but the DMA copy's. -/
def busPeek (gated : Bool) (s : State) (a : Word) : Option Byte :=
  match region a with
  | .rom =>
    if !s.bootDisabled && decide (a.toNat ≤ 0x00FF) then some (s.params.bootImage.read a.toNat)
    else cartRead s.cart a.toNat
  | .vram => some (if gated && vramLocked s then 0xFF else s.ram.read (ramKey a))
  | .cartRam => cartRead s.cart a.toNat
  | .wram => some (s.ram.read (ramKey a))
  | .echo => some (s.ram.read (ramKey a))
  | .oam => some (if gated && oamLocked s then 0xFF else s.ram.read (ramKey a))
  | .hole => unmappedRead s
  | .io => ioRead s a
  | .hram => some (s.ram.read (ramKey a))
  | .ie => some s.ie

/-- The state after a read: no spec state changes (R52); a read of 0xFF00 uses up one joypad draw (R66, log entry 4). -/
def afterRead (s : State) (a : Word) : State :=
  if a = 0xFF00 then { s with joypadDraws := s.joypadDraws + 1 } else s

/-- A bus read, with or without the gate (R52). -/
def busReadWith (gated : Bool) (a : Word) (s : State) : Access Byte :=
  match busPeek gated s a with
  | some v => .ok v (afterRead s a)
  | none => .stop (raiseFault (.invalidAccess a .read) s)

/-- `MemRead(addr, 1)` (R52). -/
def busRead (a : Word) (s : State) : Access Byte := busReadWith true a s

/-- The copy loop of the OAM DMA: `n` bytes left, the next one at index `i` (R72). -/
def dmaCopy (page : Byte) : Nat → Nat → State → Access Unit
  | 0, _, s => .ok () s
  | n + 1, i, s =>
    (busReadWith false (word page (BitVec.ofNat 8 i)) s).bind fun v t =>
      dmaCopy page n (i + 1) (t.setRam (t.ram.write (0xFE00 + i) v))

/-- A write of 0xFF46: the DMA register, then 160 bytes copied inside the same write (R72). -/
def oamDma (page : Byte) (s : State) : Access Unit :=
  dmaCopy page 160 0 (s.setPpu { s.ppu with dma := page })

/-- `Unmapped(addr, write)` (R67). -/
def unmappedWrite (a : Word) (s : State) : Access Unit :=
  match s.params.unmappedPolicy with
  | .sentinel => .ok () s
  | .fault => .stop (raiseFault (.invalidAccess a .write) s)

/-- `IoWrite(addr, v)` (R63). -/
def ioWrite (a : Word) (v : Byte) (s : State) : Access Unit :=
  match a.toNat with
  | 0xFF00 => .ok () s
  | 0xFF04 => .ok () (s.setTimer { s.timer with divCounter := 0 })
  | 0xFF05 => .ok () (s.setTimer { s.timer with tima := v })
  | 0xFF06 => .ok () (s.setTimer { s.timer with tma := v })
  | 0xFF07 => .ok () (s.setTimer { s.timer with tac := v.extractLsb' 0 3 })
  | 0xFF0F => .ok () (s.setIf (v.extractLsb' 0 5))
  | 0xFF40 => .ok () (s.setPpu { s.ppu with lcdc := v })
  | 0xFF41 => .ok () (s.setPpu { s.ppu with statSel := v.extractLsb' 3 4 })
  | 0xFF42 => .ok () (s.setPpu { s.ppu with scy := v })
  | 0xFF43 => .ok () (s.setPpu { s.ppu with scx := v })
  | 0xFF44 => .ok () s
  | 0xFF45 => .ok () (s.setPpu { s.ppu with lyc := v })
  | 0xFF46 => oamDma v s
  | 0xFF47 => .ok () (s.setPpu { s.ppu with bgp := v })
  | 0xFF48 => .ok () (s.setPpu { s.ppu with obp0 := v })
  | 0xFF49 => .ok () (s.setPpu { s.ppu with obp1 := v })
  | 0xFF4A => .ok () (s.setPpu { s.ppu with wy := v })
  | 0xFF4B => .ok () (s.setPpu { s.ppu with wx := v })
  | 0xFF50 => .ok () (if v = 0 then s else s.disableBoot)
  | _ => unmappedWrite a s

/-- A write to the cartridge's ranges, the low 256 bytes included whatever the overlay is (R53, R54). -/
def cartStore (a : Word) (v : Byte) (s : State) : Access Unit :=
  match cartWrite s.cart a.toNat v with
  | some c => .ok () (s.setCart c)
  | none => .stop (raiseFault (.invalidAccess a .write) s)

/-- A byte stored into a RAM array (R56). -/
def ramStore (a : Word) (v : Byte) (s : State) : State := s.setRam (s.ram.write (ramKey a) v)

/-- `MemWrite(addr, 1, v)` (R53). -/
def busWrite (a : Word) (v : Byte) (s : State) : Access Unit :=
  match region a with
  | .rom => cartStore a v s
  | .vram => .ok () (if vramLocked s then s else ramStore a v s)
  | .cartRam => cartStore a v s
  | .wram => .ok () (ramStore a v s)
  | .echo => .ok () (ramStore a v s)
  | .oam => .ok () (if oamLocked s then s else ramStore a v s)
  | .hole => unmappedWrite a s
  | .io => ioWrite a v s
  | .hram => .ok () (ramStore a v s)
  | .ie => .ok () (s.setIe v)

/-- `MemRead(addr, 2)`: low byte first, the second address modulo 65536 (R70). -/
def busRead16 (a : Word) (s : State) : Access Word :=
  (busRead a s).bind fun l t => (busRead (a + 1) t).bind fun h u => .ok (word h l) u

/-- `MemWrite(addr, 2, v)`: low byte first, the second address modulo 65536 (R70). -/
def busWrite16 (a : Word) (v : Word) (s : State) : Access Unit :=
  (busWrite a (lo v) s).bind fun _ t => busWrite (a + 1) (hi v) t

end Sys2Proof.Machine
end

