-- ==== Sys2Proof/Machine/Flags.lean ====
section
/-! DEFINITION. The flags of F (10_state.md R24), the condition codes (30_encoding.md R96), and every result-and-flag
computation of the arithmetic, logic, rotate and shift families, on widened integers (42_alu8.md R160, 43_alu16.md,
44_rotate_shift_bit.md). -/

namespace Sys2Proof.Machine

/-- The four flags as F holds them: Z bit 7, N bit 6, H bit 5, C bit 4, the low nibble zero (R21, R24). -/
def packFlags (z n h c : Bool) : Byte :=
  BitVec.ofNat 8 (128 * bit z + 64 * bit n + 32 * bit h + 16 * bit c)

/-- `F.Z` (R24). -/
def State.flagZ (s : State) : Bool := s.regs.f.getLsbD 7

/-- `F.N` (R24). -/
def State.flagN (s : State) : Bool := s.regs.f.getLsbD 6

/-- `F.H` (R24). -/
def State.flagH (s : State) : Bool := s.regs.f.getLsbD 5

/-- `F.C` (R24). -/
def State.flagC (s : State) : Bool := s.regs.f.getLsbD 4

/-- Write all four flags. -/
def State.setFlags (s : State) (z n h c : Bool) : State := s.setF (packFlags z n h c)

/-- `Cond(cc)` on the current F (R96). -/
def condHolds : Cond → State → Bool
  | .nz, s => !s.flagZ
  | .z, s => s.flagZ
  | .nc, s => !s.flagC
  | .c, s => s.flagC

/-- An 8-bit result with the four flags an operation gives. -/
structure Flagged where
  val : Byte
  z : Bool
  n : Bool
  h : Bool
  c : Bool
deriving DecidableEq, Repr

/-- The add of R160 with carry input `cin`. -/
def add8 (a b : Byte) (cin : Bool) : Flagged :=
  let r := a.toNat + b.toNat + bit cin
  { val := BitVec.ofNat 8 r
    z := decide (r % 256 = 0)
    n := false
    h := decide (a.toNat % 16 + b.toNat % 16 + bit cin > 0xF)
    c := decide (r > 0xFF) }

/-- The subtract of R160 with borrow input `cin`. -/
def sub8 (a b : Byte) (cin : Bool) : Flagged :=
  let r : Int := (a.toNat : Int) - b.toNat - bit cin
  { val := BitVec.ofInt 8 r
    z := decide (r % 256 = 0)
    n := true
    h := decide (a.toNat % 16 < b.toNat % 16 + bit cin)
    c := decide (a.toNat < b.toNat + bit cin) }

/-- The logical results of R160: Z from the result, N = 0, C = 0, H as given. -/
def logic8 (r : Byte) (h : Bool) : Flagged := { val := r, z := decide (r = 0), n := false, h := h, c := false }

/-- `Alu8` (R160): the result and flags. For CP the result is the difference, which `State.applyAlu` discards. -/
def alu8 (op : AluOp) (a b : Byte) (carry : Bool) : Flagged :=
  match op with
  | .add => add8 a b false
  | .adc => add8 a b carry
  | .sub => sub8 a b false
  | .sbc => sub8 a b carry
  | .cp => sub8 a b false
  | .and => logic8 (a &&& b) true
  | .xor => logic8 (a ^^^ b) false
  | .or => logic8 (a ||| b) false

/-- `Alu8(op, b)` on the state: A is written unless the operation is CP (R160, R169). -/
def State.applyAlu (s : State) (op : AluOp) (b : Byte) : State :=
  let r := alu8 op s.regs.a b s.flagC
  let t := s.setFlags r.z r.n r.h r.c
  if op = .cp then t else t.set8 .a r.val

/-- INC's result, Z, N and H; C is the caller's (R170). -/
def inc8 (v : Byte) (c : Bool) : Flagged :=
  let r := BitVec.ofNat 8 (v.toNat + 1)
  { val := r, z := decide (r = 0), n := false, h := decide (v.toNat % 16 = 0xF), c := c }

/-- DEC's result, Z, N and H; C is the caller's (R172). -/
def dec8 (v : Byte) (c : Bool) : Flagged :=
  let r := BitVec.ofInt 8 ((v.toNat : Int) - 1)
  { val := r, z := decide (r = 0), n := true, h := decide (v.toNat % 16 = 0), c := c }

/-- DAA (R174), the intermediate kept as an integer until the end. -/
def daa8 (a : Byte) (n h c : Bool) : Flagged :=
  if n then
    let a1 : Int := if h then (a.toNat : Int) - 0x06 else a.toNat
    let a2 : Int := if c then a1 - 0x60 else a1
    let r := BitVec.ofInt 8 a2
    { val := r, z := decide (r = 0), n := n, h := false, c := c }
  else
    let a1 : Nat := if h || decide (a.toNat % 16 > 9) then a.toNat + 0x06 else a.toNat
    let high := c || decide (a1 > 0x9F)
    let a2 : Nat := if high then a1 + 0x60 else a1
    let r := BitVec.ofNat 8 a2
    { val := r, z := decide (r = 0), n := n, h := false, c := high }

/-- A 16-bit result with the H and C flags an operation gives. -/
structure Flagged16 where
  val : Word
  h : Bool
  c : Bool
deriving DecidableEq, Repr

/-- ADD HL's sum, the carries out of bits 11 and 15 (R190). -/
def add16 (h v : Word) : Flagged16 :=
  { val := BitVec.ofNat 16 (h.toNat + v.toNat)
    h := decide (h.toNat % 0x1000 + v.toNat % 0x1000 > 0x0FFF)
    c := decide (h.toNat + v.toNat > 0xFFFF) }

/-- `SpPlusE(u)` (R193): the 16-bit sum with the sign-extended byte, H and C from the low byte of SP and the unsigned
byte. -/
def spPlusE (sp : Word) (u : Byte) : Flagged16 :=
  { val := sp + sext16 u
    h := decide (sp.toNat % 16 + u.toNat % 16 > 0xF)
    c := decide (sp.toNat % 256 + u.toNat > 0xFF) }

/-- The result of a rotate or shift and the bit it shifts out; SWAP shifts none out (R205 to R212). `c` is the
incoming carry. -/
def shift8 (op : ShiftOp) (v : Byte) (c : Bool) : Byte × Bool :=
  match op with
  | .rlc => (BitVec.ofNat 8 (2 * v.toNat + bit (v.getLsbD 7)), v.getLsbD 7)
  | .rrc => (BitVec.ofNat 8 (v.toNat / 2 + 128 * bit (v.getLsbD 0)), v.getLsbD 0)
  | .rl => (BitVec.ofNat 8 (2 * v.toNat + bit c), v.getLsbD 7)
  | .rr => (BitVec.ofNat 8 (v.toNat / 2 + 128 * bit c), v.getLsbD 0)
  | .sla => (BitVec.ofNat 8 (2 * v.toNat), v.getLsbD 7)
  | .sra => (BitVec.ofNat 8 (v.toNat / 2 + 128 * bit (v.getLsbD 7)), v.getLsbD 0)
  | .swap => (BitVec.ofNat 8 (v.toNat % 16 * 16 + v.toNat / 16), false)
  | .srl => (BitVec.ofNat 8 (v.toNat / 2), v.getLsbD 0)

/-- `1 << n`. -/
def bitMask (n : Oct) : Byte := BitVec.ofNat 8 (2 ^ n.val)

end Sys2Proof.Machine
end

