-- ==== Sys2Proof/Machine/Ops.lean ====
section
/-! DEFINITION. The operations the instructions share: fetching, the stack, ending an instruction with its cost, taking an
interrupt and returning from one, and placing bytes where the next fetch reads them. -/

namespace Sys2Proof.Machine

/-- What `exec` and `step` answer. -/
abbrev Result := Host.Outcome State Fault Refusal

/-- The end of an instruction: `busy` is set to its cost in scheduler ticks (10_state.md R31, 70_reset_and_hazards.md
R420). A run that a bus access ended keeps the state of that access, `busy` not set (60_exceptions.md R301). -/
def Access.finish (cost : Nat) (x : Access Unit) : Result :=
  match x with
  | .ok _ s => .next (s.setBusy cost)
  | .stop s => .next s

/-- An instruction that makes no bus access beyond its fetch: its new state and its cost. -/
def done (cost : Nat) (s : State) : Result := .next (s.setBusy cost)

/-- `Fetch8()` (30_encoding.md R91). -/
def fetch8 (s : State) : Access Byte := (busRead s.pc s).bind fun v t => .ok v (t.setPc (t.pc + 1))

/-- `n` bytes of the instruction stream, in order. -/
def fetchBytes : Nat → State → Access (List Byte)
  | 0, s => .ok [] s
  | n + 1, s => (fetch8 s).bind fun v t => (fetchBytes n t).bind fun vs u => .ok (v :: vs) u

/-- `Push16(v)`: the high byte first, each below the last (41_load16_stack.md R140). -/
def push16 (v : Word) (s : State) : Access Unit :=
  (busWrite (s.sp - 1) (hi v) (s.setSp (s.sp - 1))).bind fun _ t =>
    busWrite (t.sp - 1) (lo v) (t.setSp (t.sp - 1))

/-- `Pop16()`: the low byte first (R140). -/
def pop16 (s : State) : Access Word :=
  (busRead s.sp s).bind fun l t =>
    let t1 := t.setSp (t.sp + 1)
    (busRead t1.sp t1).bind fun h u => .ok (word h l) (u.setSp (u.sp + 1))

/-- `Push16(pc); pc <- target`: the transfer of CALL, RST and the interrupt dispatch (45_control.md R235). -/
def callTo (target : Word) (s : State) : Access Unit :=
  (push16 s.pc s).bind fun _ t => .ok () (t.setPc target)

/-- The five interrupt sources, highest priority first (10_state.md R33). -/
inductive IntSource | vBlank | lcdStatus | timer | serial | joypad
deriving DecidableEq, Repr

/-- A source's bit in IF and IE (R33). -/
def IntSource.index : IntSource → Nat
  | .vBlank => 0
  | .lcdStatus => 1
  | .timer => 2
  | .serial => 3
  | .joypad => 4

/-- A source's bit as a mask of IF. -/
def IntSource.mask (n : IntSource) : BitVec 5 := BitVec.ofNat 5 (2 ^ n.index)

/-- A source's service address, `0x0040 + 8 × n` (R33, 60_exceptions.md R321). -/
def IntSource.vector (n : IntSource) : Word := BitVec.ofNat 16 (0x0040 + 8 * n.index)

/-- `IE & IF & 0x1F` (60_exceptions.md R320). -/
def pendingEnabled (s : State) : BitVec 5 := s.ie.extractLsb' 0 5 &&& s.ifReg

/-- The pending and enabled source of the lowest bit (R320). -/
def lowestSource (p : BitVec 5) : Option IntSource :=
  if p.getLsbD 0 then some .vBlank
  else if p.getLsbD 1 then some .lcdStatus
  else if p.getLsbD 2 then some .timer
  else if p.getLsbD 3 then some .serial
  else if p.getLsbD 4 then some .joypad
  else none

/-- `InterruptSelect()` (R320). -/
def interruptSelect (s : State) : Option IntSource := if s.ime then lowestSource (pendingEnabled s) else none

/-- TAKING AN EXCEPTION: `InterruptDispatch(n)` (R321). The pc is pushed, then it becomes the service address, IME and the
enable latch are cleared, that source's pending bit is cleared, and the service costs 5 ticks. -/
def interruptDispatch (n : IntSource) (s : State) : Result :=
  ((callTo n.vector s).bind fun _ t =>
    .ok () (((t.setIme false).setEi false).setIf (t.ifReg &&& ~~~n.mask))).finish 5

/-- RETURNING FROM ONE: RETI's effect (45_control.md R242, R325). -/
def returnFromInterrupt (s : State) : Access Unit :=
  (pop16 s).bind fun v t =>
    .ok () (match t.params.retiMode with
      | .delayed => (t.setPc v).setEi true
      | .immediate => (t.setPc v).setIme true)

/-- A set bit of IF: a device, or the host between ticks, ORs a source in (60_exceptions.md R310, R312). -/
def State.raiseInt (s : State) (n : IntSource) : State := s.setIf (s.ifReg ||| n.mask)

/-- Whether a byte can be put where a bus read of the address finds it. -/
def placeable (a : Word) : Bool :=
  match region a with
  | .rom => true
  | .vram => true
  | .wram => true
  | .echo => true
  | .oam => true
  | .hram => true
  | .ie => true
  | .cartRam => false
  | .hole => false
  | .io => false

/-- A byte put where a bus read of the address finds it: the boot image while the overlay shows it, else the ROM image of
a no-banking cartridge, a RAM array with the gate open, or IE. It is the loader's move, no instruction's. -/
def placeByte (a : Word) (v : Byte) (s : State) : State :=
  match region a with
  | .rom =>
    if !s.bootDisabled && decide (a.toNat ≤ 0x00FF) then
      { s with params := { s.params with bootImage := s.params.bootImage.write a.toNat v } }
    else s.setCart { s.cart with variant := .noBanking, rom := s.cart.rom.write a.toNat v }
  | .vram => { s with ram := s.ram.write (ramKey a) v, params := { s.params with vramOamLock := false } }
  | .oam => { s with ram := s.ram.write (ramKey a) v, params := { s.params with vramOamLock := false } }
  | .wram => ramStore a v s
  | .echo => ramStore a v s
  | .hram => ramStore a v s
  | .ie => s.setIe v
  | .cartRam => s
  | .hole => s
  | .io => s

/-- Bytes placed at rising addresses, modulo 65536. -/
def placeBytes : Word → List Byte → State → State
  | _, [], s => s
  | a, v :: vs, s => placeBytes (a + 1) vs (placeByte a v s)

end Sys2Proof.Machine
end

