-- ==== Sys2Proof/Machine/Operands.lean ====
section
/-! DEFINITION. The operand forms and the shapes instructions share over them (30_encoding.md R93 to R97, 42_alu8.md R161,
44_rotate_shift_bit.md R204). A shape takes the instruction's cost; the pc of the state it is given already stands after
the instruction's bytes (R91). -/

namespace Sys2Proof.Machine

/-- `ReadR8` (R93). -/
def readR8 (x : R8) (s : State) : Access Byte :=
  match x with
  | .reg r => .ok (s.get8 r) s
  | .indHl => busRead s.hl s

/-- `WriteR8` (R93). -/
def writeR8 (x : R8) (v : Byte) (s : State) : Access Unit :=
  match x with
  | .reg r => .ok () (s.set8 r v)
  | .indHl => busWrite s.hl v s

/-- Load a register from a bus address. -/
def loadReg (r : Reg8) (addr : Word) (cost : Nat) (s : State) : Result :=
  ((busRead addr s).bind fun v t => .ok () (t.set8 r v)).finish cost

/-- Store a byte to a bus address. -/
def storeByte (addr : Word) (v : Byte) (cost : Nat) (s : State) : Result := (busWrite addr v s).finish cost

/-- Store A at HL, then move HL by `delta` (40_load8.md R123, R124). -/
def storeMoveHl (delta : Word) (cost : Nat) (s : State) : Result :=
  ((busWrite s.hl s.regs.a s).bind fun _ t => .ok () (t.set16 .hl (s.hl + delta))).finish cost

/-- Load A from HL, then move HL by `delta` (R125, R126). -/
def loadMoveHl (delta : Word) (cost : Nat) (s : State) : Result :=
  ((busRead s.hl s).bind fun v t => .ok () ((t.set8 .a v).set16 .hl (s.hl + delta))).finish cost

/-- Push a pair (41_load16_stack.md R144). -/
def pushPair (rr : RegStk) (cost : Nat) (s : State) : Result := (push16 (s.getStk rr) s).finish cost

/-- Pop into a pair (R145, R146). -/
def popPair (rr : RegStk) (cost : Nat) (s : State) : Result :=
  ((pop16 s).bind fun v t => .ok () (t.setStk rr v)).finish cost

/-- An accumulator operation on an `r8` operand (42_alu8.md R161). -/
def aluR8 (op : AluOp) (x : R8) (cost : Nat) (s : State) : Result :=
  ((readR8 x s).bind fun v t => .ok () (t.applyAlu op v)).finish cost

/-- Read an `r8` operand, write the result back, then write the flags: INC and DEC (42_alu8.md R170 to R173). -/
def stepR8 (f : Byte → Bool → Flagged) (x : R8) (cost : Nat) (s : State) : Result :=
  ((readR8 x s).bind fun v t =>
    let r := f v t.flagC
    (writeR8 x r.val t).bind fun _ u => .ok () (u.setFlags r.z r.n r.h r.c)).finish cost

/-- A prefixed rotate or shift: Z from the result, N = H = 0, C the bit shifted out (44_rotate_shift_bit.md R204 to
R212). -/
def shiftR8 (op : ShiftOp) (x : R8) (cost : Nat) (s : State) : Result :=
  ((readR8 x s).bind fun v t =>
    let r := shift8 op v t.flagC
    (writeR8 x r.1 t).bind fun _ u => .ok () (u.setFlags (decide (r.1 = 0)) false false r.2)).finish cost

/-- An accumulator rotate: Z = N = H = 0, C the bit shifted out (R200 to R203). -/
def rotateA (op : ShiftOp) (s : State) : Result :=
  let r := shift8 op s.regs.a s.flagC
  done 1 ((s.set8 .a r.1).setFlags false false false r.2)

/-- BIT: Z = 1 when the bit is 0, N = 0, H = 1, C unchanged; nothing is written back (R213). -/
def bitR8 (n : Oct) (x : R8) (cost : Nat) (s : State) : Result :=
  ((readR8 x s).bind fun v t => .ok () (t.setFlags (!v.getLsbD n.val) false true t.flagC)).finish cost

/-- RES: the bit cleared, no flag written (R214). -/
def resR8 (n : Oct) (x : R8) (cost : Nat) (s : State) : Result :=
  ((readR8 x s).bind fun v t => writeR8 x (v &&& ~~~bitMask n) t).finish cost

/-- SET: the bit set, no flag written (R215). -/
def setR8 (n : Oct) (x : R8) (cost : Nat) (s : State) : Result :=
  ((readR8 x s).bind fun v t => writeR8 x (v ||| bitMask n) t).finish cost

/-- The cost of a prefixed instruction: `onReg` for a register operand, `onHl` for (HL) (70_reset_and_hazards.md R421). -/
def prefixedCost (x : R8) (onReg onHl : Nat) : Nat :=
  match x with
  | .reg _ => onReg
  | .indHl => onHl

/-- ADD HL,r16 (43_alu16.md R190). -/
def addHl (rr : Reg16) (s : State) : Result :=
  let r := add16 s.hl (s.get16 rr)
  done 2 ((s.setFlags s.flagZ false r.h r.c).set16 .hl r.val)

/-- A jump taken or not, at the taken or the not-taken cost (45_control.md R240). -/
def jumpIf (taken : Bool) (target : Word) (costNot costTaken : Nat) (s : State) : Result :=
  if taken then done costTaken (s.setPc target) else done costNot s

/-- A call taken or not (R236). -/
def callIf (taken : Bool) (target : Word) (costNot costTaken : Nat) (s : State) : Result :=
  if taken then (callTo target s).finish costTaken else done costNot s

/-- `pc <- Pop16()` (R237). -/
def popPc (s : State) : Access Unit := (pop16 s).bind fun v t => .ok () (t.setPc v)

/-- A return taken or not (R238). -/
def returnIf (taken : Bool) (costNot costTaken : Nat) (s : State) : Result :=
  if taken then (popPc s).finish costTaken else done costNot s

/-- The target of a relative jump: the next instruction's address plus the signed byte (R233). -/
def relTarget (e : Byte) (s : State) : Word := s.pc + sext16 e

/-- The effect of an undefined opcode: the fault records the opcode and the address it was fetched from, which is one
below the pc after its fetch (46_system.md R257). Nothing else changes. -/
def undefinedOp (op : Byte) (s : State) : Result :=
  .next (raiseFault (.undefinedOpcode op (s.pc - 1)) s)

end Sys2Proof.Machine
end

