-- ==== Sys2Proof/Machine/Alu16.lean ====
section
/-! DEFINITION. The 16-bit arithmetic instructions (43_alu16.md). Each meaning is given the state whose pc stands after the
instruction's bytes (30_encoding.md R91). -/

namespace Sys2Proof.Machine

/-- INC BC (R191). -/
def execIncBc (s : State) : Result := done 2 (s.set16 .bc (s.get16 .bc + 1))

/-- ADD HL,BC (R190). -/
def execAddHlBc (s : State) : Result := addHl .bc s

/-- DEC BC (R192). -/
def execDecBc (s : State) : Result := done 2 (s.set16 .bc (s.get16 .bc - 1))

/-- INC DE (R191). -/
def execIncDe (s : State) : Result := done 2 (s.set16 .de (s.get16 .de + 1))

/-- ADD HL,DE (R190). -/
def execAddHlDe (s : State) : Result := addHl .de s

/-- DEC DE (R192). -/
def execDecDe (s : State) : Result := done 2 (s.set16 .de (s.get16 .de - 1))

/-- INC HL (R191). -/
def execIncHl (s : State) : Result := done 2 (s.set16 .hl (s.get16 .hl + 1))

/-- ADD HL,HL (R190). -/
def execAddHlHl (s : State) : Result := addHl .hl s

/-- DEC HL (R192). -/
def execDecHl (s : State) : Result := done 2 (s.set16 .hl (s.get16 .hl - 1))

/-- INC SP (R191). -/
def execIncSp (s : State) : Result := done 2 (s.set16 .sp (s.get16 .sp + 1))

/-- ADD HL,SP (R190). -/
def execAddHlSp (s : State) : Result := addHl .sp s

/-- DEC SP (R192). -/
def execDecSp (s : State) : Result := done 2 (s.set16 .sp (s.get16 .sp - 1))

/-- ADD SP,e8 (R194). -/
def execAddSpE8 (e : Byte) (s : State) : Result :=
  let r := spPlusE s.sp e
  done 4 ((s.setFlags false false r.h r.c).setSp r.val)

/-- LD HL,SP+e8 (R195). -/
def execLdHlSpE8 (e : Byte) (s : State) : Result :=
  let r := spPlusE s.sp e
  done 3 ((s.setFlags false false r.h r.c).set16 .hl r.val)

end Sys2Proof.Machine
end

