-- ==== Sys2Proof/Machine/Alu8.lean ====
section
/-! DEFINITION. The 8-bit arithmetic and logic instructions (42_alu8.md). Each meaning is given the state whose pc stands after the
instruction's bytes (30_encoding.md R91). -/

namespace Sys2Proof.Machine

/-- INC B (R170). -/
def execIncB (s : State) : Result := stepR8 inc8 (.reg .b) 1 s

/-- DEC B (R172). -/
def execDecB (s : State) : Result := stepR8 dec8 (.reg .b) 1 s

/-- INC C (R170). -/
def execIncC (s : State) : Result := stepR8 inc8 (.reg .c) 1 s

/-- DEC C (R172). -/
def execDecC (s : State) : Result := stepR8 dec8 (.reg .c) 1 s

/-- INC D (R170). -/
def execIncD (s : State) : Result := stepR8 inc8 (.reg .d) 1 s

/-- DEC D (R172). -/
def execDecD (s : State) : Result := stepR8 dec8 (.reg .d) 1 s

/-- INC E (R170). -/
def execIncE (s : State) : Result := stepR8 inc8 (.reg .e) 1 s

/-- DEC E (R172). -/
def execDecE (s : State) : Result := stepR8 dec8 (.reg .e) 1 s

/-- INC H (R170). -/
def execIncH (s : State) : Result := stepR8 inc8 (.reg .h) 1 s

/-- DEC H (R172). -/
def execDecH (s : State) : Result := stepR8 dec8 (.reg .h) 1 s

/-- DAA (R174). -/
def execDaa (s : State) : Result :=
  let r := daa8 s.regs.a s.flagN s.flagH s.flagC
  done 1 ((s.set8 .a r.val).setFlags r.z r.n r.h r.c)

/-- INC L (R170). -/
def execIncL (s : State) : Result := stepR8 inc8 (.reg .l) 1 s

/-- DEC L (R172). -/
def execDecL (s : State) : Result := stepR8 dec8 (.reg .l) 1 s

/-- CPL (R175). -/
def execCpl (s : State) : Result := done 1 ((s.set8 .a (s.regs.a ^^^ 0xFF)).setFlags s.flagZ true true s.flagC)

/-- INC (HL) (R171). -/
def execIncIndHl (s : State) : Result := stepR8 inc8 .indHl 3 s

/-- DEC (HL) (R173). -/
def execDecIndHl (s : State) : Result := stepR8 dec8 .indHl 3 s

/-- SCF (R176). -/
def execScf (s : State) : Result := done 1 (s.setFlags s.flagZ false false true)

/-- INC A (R170). -/
def execIncA (s : State) : Result := stepR8 inc8 (.reg .a) 1 s

/-- DEC A (R172). -/
def execDecA (s : State) : Result := stepR8 dec8 (.reg .a) 1 s

/-- CCF (R177). -/
def execCcf (s : State) : Result := done 1 (s.setFlags s.flagZ false false (!s.flagC))

/-- ADD A,B (R162). -/
def execAddAB (s : State) : Result := aluR8 .add (.reg .b) 1 s

/-- ADD A,C (R162). -/
def execAddAC (s : State) : Result := aluR8 .add (.reg .c) 1 s

/-- ADD A,D (R162). -/
def execAddAD (s : State) : Result := aluR8 .add (.reg .d) 1 s

/-- ADD A,E (R162). -/
def execAddAE (s : State) : Result := aluR8 .add (.reg .e) 1 s

/-- ADD A,H (R162). -/
def execAddAH (s : State) : Result := aluR8 .add (.reg .h) 1 s

/-- ADD A,L (R162). -/
def execAddAL (s : State) : Result := aluR8 .add (.reg .l) 1 s

/-- ADD A,(HL) (R162). -/
def execAddAIndHl (s : State) : Result := aluR8 .add .indHl 2 s

/-- ADD A,A (R162). -/
def execAddAA (s : State) : Result := aluR8 .add (.reg .a) 1 s

/-- ADC A,B (R163). -/
def execAdcAB (s : State) : Result := aluR8 .adc (.reg .b) 1 s

/-- ADC A,C (R163). -/
def execAdcAC (s : State) : Result := aluR8 .adc (.reg .c) 1 s

/-- ADC A,D (R163). -/
def execAdcAD (s : State) : Result := aluR8 .adc (.reg .d) 1 s

/-- ADC A,E (R163). -/
def execAdcAE (s : State) : Result := aluR8 .adc (.reg .e) 1 s

/-- ADC A,H (R163). -/
def execAdcAH (s : State) : Result := aluR8 .adc (.reg .h) 1 s

/-- ADC A,L (R163). -/
def execAdcAL (s : State) : Result := aluR8 .adc (.reg .l) 1 s

/-- ADC A,(HL) (R163). -/
def execAdcAIndHl (s : State) : Result := aluR8 .adc .indHl 2 s

/-- ADC A,A (R163). -/
def execAdcAA (s : State) : Result := aluR8 .adc (.reg .a) 1 s

/-- SUB B (R164). -/
def execSubB (s : State) : Result := aluR8 .sub (.reg .b) 1 s

/-- SUB C (R164). -/
def execSubC (s : State) : Result := aluR8 .sub (.reg .c) 1 s

/-- SUB D (R164). -/
def execSubD (s : State) : Result := aluR8 .sub (.reg .d) 1 s

/-- SUB E (R164). -/
def execSubE (s : State) : Result := aluR8 .sub (.reg .e) 1 s

/-- SUB H (R164). -/
def execSubH (s : State) : Result := aluR8 .sub (.reg .h) 1 s

/-- SUB L (R164). -/
def execSubL (s : State) : Result := aluR8 .sub (.reg .l) 1 s

/-- SUB (HL) (R164). -/
def execSubIndHl (s : State) : Result := aluR8 .sub .indHl 2 s

/-- SUB A (R164). -/
def execSubA (s : State) : Result := aluR8 .sub (.reg .a) 1 s

/-- SBC A,B (R165). -/
def execSbcAB (s : State) : Result := aluR8 .sbc (.reg .b) 1 s

/-- SBC A,C (R165). -/
def execSbcAC (s : State) : Result := aluR8 .sbc (.reg .c) 1 s

/-- SBC A,D (R165). -/
def execSbcAD (s : State) : Result := aluR8 .sbc (.reg .d) 1 s

/-- SBC A,E (R165). -/
def execSbcAE (s : State) : Result := aluR8 .sbc (.reg .e) 1 s

/-- SBC A,H (R165). -/
def execSbcAH (s : State) : Result := aluR8 .sbc (.reg .h) 1 s

/-- SBC A,L (R165). -/
def execSbcAL (s : State) : Result := aluR8 .sbc (.reg .l) 1 s

/-- SBC A,(HL) (R165). -/
def execSbcAIndHl (s : State) : Result := aluR8 .sbc .indHl 2 s

/-- SBC A,A (R165). -/
def execSbcAA (s : State) : Result := aluR8 .sbc (.reg .a) 1 s

/-- AND B (R166). -/
def execAndB (s : State) : Result := aluR8 .and (.reg .b) 1 s

/-- AND C (R166). -/
def execAndC (s : State) : Result := aluR8 .and (.reg .c) 1 s

/-- AND D (R166). -/
def execAndD (s : State) : Result := aluR8 .and (.reg .d) 1 s

/-- AND E (R166). -/
def execAndE (s : State) : Result := aluR8 .and (.reg .e) 1 s

/-- AND H (R166). -/
def execAndH (s : State) : Result := aluR8 .and (.reg .h) 1 s

/-- AND L (R166). -/
def execAndL (s : State) : Result := aluR8 .and (.reg .l) 1 s

/-- AND (HL) (R166). -/
def execAndIndHl (s : State) : Result := aluR8 .and .indHl 2 s

/-- AND A (R166). -/
def execAndA (s : State) : Result := aluR8 .and (.reg .a) 1 s

/-- XOR B (R167). -/
def execXorB (s : State) : Result := aluR8 .xor (.reg .b) 1 s

/-- XOR C (R167). -/
def execXorC (s : State) : Result := aluR8 .xor (.reg .c) 1 s

/-- XOR D (R167). -/
def execXorD (s : State) : Result := aluR8 .xor (.reg .d) 1 s

/-- XOR E (R167). -/
def execXorE (s : State) : Result := aluR8 .xor (.reg .e) 1 s

/-- XOR H (R167). -/
def execXorH (s : State) : Result := aluR8 .xor (.reg .h) 1 s

/-- XOR L (R167). -/
def execXorL (s : State) : Result := aluR8 .xor (.reg .l) 1 s

/-- XOR (HL) (R167). -/
def execXorIndHl (s : State) : Result := aluR8 .xor .indHl 2 s

/-- XOR A (R167). -/
def execXorA (s : State) : Result := aluR8 .xor (.reg .a) 1 s

/-- OR B (R168). -/
def execOrB (s : State) : Result := aluR8 .or (.reg .b) 1 s

/-- OR C (R168). -/
def execOrC (s : State) : Result := aluR8 .or (.reg .c) 1 s

/-- OR D (R168). -/
def execOrD (s : State) : Result := aluR8 .or (.reg .d) 1 s

/-- OR E (R168). -/
def execOrE (s : State) : Result := aluR8 .or (.reg .e) 1 s

/-- OR H (R168). -/
def execOrH (s : State) : Result := aluR8 .or (.reg .h) 1 s

/-- OR L (R168). -/
def execOrL (s : State) : Result := aluR8 .or (.reg .l) 1 s

/-- OR (HL) (R168). -/
def execOrIndHl (s : State) : Result := aluR8 .or .indHl 2 s

/-- OR A (R168). -/
def execOrA (s : State) : Result := aluR8 .or (.reg .a) 1 s

/-- CP B (R169). -/
def execCpB (s : State) : Result := aluR8 .cp (.reg .b) 1 s

/-- CP C (R169). -/
def execCpC (s : State) : Result := aluR8 .cp (.reg .c) 1 s

/-- CP D (R169). -/
def execCpD (s : State) : Result := aluR8 .cp (.reg .d) 1 s

/-- CP E (R169). -/
def execCpE (s : State) : Result := aluR8 .cp (.reg .e) 1 s

/-- CP H (R169). -/
def execCpH (s : State) : Result := aluR8 .cp (.reg .h) 1 s

/-- CP L (R169). -/
def execCpL (s : State) : Result := aluR8 .cp (.reg .l) 1 s

/-- CP (HL) (R169). -/
def execCpIndHl (s : State) : Result := aluR8 .cp .indHl 2 s

/-- CP A (R169). -/
def execCpA (s : State) : Result := aluR8 .cp (.reg .a) 1 s

/-- ADD A,d8 (R162). -/
def execAddAD8 (n : Byte) (s : State) : Result := done 2 (s.applyAlu .add n)

/-- ADC A,d8 (R163). -/
def execAdcAD8 (n : Byte) (s : State) : Result := done 2 (s.applyAlu .adc n)

/-- SUB d8 (R164). -/
def execSubD8 (n : Byte) (s : State) : Result := done 2 (s.applyAlu .sub n)

/-- SBC A,d8 (R165). -/
def execSbcAD8 (n : Byte) (s : State) : Result := done 2 (s.applyAlu .sbc n)

/-- AND d8 (R166). -/
def execAndD8 (n : Byte) (s : State) : Result := done 2 (s.applyAlu .and n)

/-- XOR d8 (R167). -/
def execXorD8 (n : Byte) (s : State) : Result := done 2 (s.applyAlu .xor n)

/-- OR d8 (R168). -/
def execOrD8 (n : Byte) (s : State) : Result := done 2 (s.applyAlu .or n)

/-- CP d8 (R169). -/
def execCpD8 (n : Byte) (s : State) : Result := done 2 (s.applyAlu .cp n)

end Sys2Proof.Machine
end

