-- ==== Sys2Proof/Machine/BitOps.lean ====
section
/-! DEFINITION. The bit test, reset and set instructions (44_rotate_shift_bit.md R213 to R215). Each meaning is given the state whose pc stands after the
instruction's bytes (30_encoding.md R91). -/

namespace Sys2Proof.Machine

/-- BIT 0,B (R213). -/
def execBit0B (s : State) : Result := bitR8 .i0 (.reg .b) 2 s

/-- BIT 0,C (R213). -/
def execBit0C (s : State) : Result := bitR8 .i0 (.reg .c) 2 s

/-- BIT 0,D (R213). -/
def execBit0D (s : State) : Result := bitR8 .i0 (.reg .d) 2 s

/-- BIT 0,E (R213). -/
def execBit0E (s : State) : Result := bitR8 .i0 (.reg .e) 2 s

/-- BIT 0,H (R213). -/
def execBit0H (s : State) : Result := bitR8 .i0 (.reg .h) 2 s

/-- BIT 0,L (R213). -/
def execBit0L (s : State) : Result := bitR8 .i0 (.reg .l) 2 s

/-- BIT 0,(HL) (R213). -/
def execBit0IndHl (s : State) : Result := bitR8 .i0 .indHl 3 s

/-- BIT 0,A (R213). -/
def execBit0A (s : State) : Result := bitR8 .i0 (.reg .a) 2 s

/-- BIT 1,B (R213). -/
def execBit1B (s : State) : Result := bitR8 .i1 (.reg .b) 2 s

/-- BIT 1,C (R213). -/
def execBit1C (s : State) : Result := bitR8 .i1 (.reg .c) 2 s

/-- BIT 1,D (R213). -/
def execBit1D (s : State) : Result := bitR8 .i1 (.reg .d) 2 s

/-- BIT 1,E (R213). -/
def execBit1E (s : State) : Result := bitR8 .i1 (.reg .e) 2 s

/-- BIT 1,H (R213). -/
def execBit1H (s : State) : Result := bitR8 .i1 (.reg .h) 2 s

/-- BIT 1,L (R213). -/
def execBit1L (s : State) : Result := bitR8 .i1 (.reg .l) 2 s

/-- BIT 1,(HL) (R213). -/
def execBit1IndHl (s : State) : Result := bitR8 .i1 .indHl 3 s

/-- BIT 1,A (R213). -/
def execBit1A (s : State) : Result := bitR8 .i1 (.reg .a) 2 s

/-- BIT 2,B (R213). -/
def execBit2B (s : State) : Result := bitR8 .i2 (.reg .b) 2 s

/-- BIT 2,C (R213). -/
def execBit2C (s : State) : Result := bitR8 .i2 (.reg .c) 2 s

/-- BIT 2,D (R213). -/
def execBit2D (s : State) : Result := bitR8 .i2 (.reg .d) 2 s

/-- BIT 2,E (R213). -/
def execBit2E (s : State) : Result := bitR8 .i2 (.reg .e) 2 s

/-- BIT 2,H (R213). -/
def execBit2H (s : State) : Result := bitR8 .i2 (.reg .h) 2 s

/-- BIT 2,L (R213). -/
def execBit2L (s : State) : Result := bitR8 .i2 (.reg .l) 2 s

/-- BIT 2,(HL) (R213). -/
def execBit2IndHl (s : State) : Result := bitR8 .i2 .indHl 3 s

/-- BIT 2,A (R213). -/
def execBit2A (s : State) : Result := bitR8 .i2 (.reg .a) 2 s

/-- BIT 3,B (R213). -/
def execBit3B (s : State) : Result := bitR8 .i3 (.reg .b) 2 s

/-- BIT 3,C (R213). -/
def execBit3C (s : State) : Result := bitR8 .i3 (.reg .c) 2 s

/-- BIT 3,D (R213). -/
def execBit3D (s : State) : Result := bitR8 .i3 (.reg .d) 2 s

/-- BIT 3,E (R213). -/
def execBit3E (s : State) : Result := bitR8 .i3 (.reg .e) 2 s

/-- BIT 3,H (R213). -/
def execBit3H (s : State) : Result := bitR8 .i3 (.reg .h) 2 s

/-- BIT 3,L (R213). -/
def execBit3L (s : State) : Result := bitR8 .i3 (.reg .l) 2 s

/-- BIT 3,(HL) (R213). -/
def execBit3IndHl (s : State) : Result := bitR8 .i3 .indHl 3 s

/-- BIT 3,A (R213). -/
def execBit3A (s : State) : Result := bitR8 .i3 (.reg .a) 2 s

/-- BIT 4,B (R213). -/
def execBit4B (s : State) : Result := bitR8 .i4 (.reg .b) 2 s

/-- BIT 4,C (R213). -/
def execBit4C (s : State) : Result := bitR8 .i4 (.reg .c) 2 s

/-- BIT 4,D (R213). -/
def execBit4D (s : State) : Result := bitR8 .i4 (.reg .d) 2 s

/-- BIT 4,E (R213). -/
def execBit4E (s : State) : Result := bitR8 .i4 (.reg .e) 2 s

/-- BIT 4,H (R213). -/
def execBit4H (s : State) : Result := bitR8 .i4 (.reg .h) 2 s

/-- BIT 4,L (R213). -/
def execBit4L (s : State) : Result := bitR8 .i4 (.reg .l) 2 s

/-- BIT 4,(HL) (R213). -/
def execBit4IndHl (s : State) : Result := bitR8 .i4 .indHl 3 s

/-- BIT 4,A (R213). -/
def execBit4A (s : State) : Result := bitR8 .i4 (.reg .a) 2 s

/-- BIT 5,B (R213). -/
def execBit5B (s : State) : Result := bitR8 .i5 (.reg .b) 2 s

/-- BIT 5,C (R213). -/
def execBit5C (s : State) : Result := bitR8 .i5 (.reg .c) 2 s

/-- BIT 5,D (R213). -/
def execBit5D (s : State) : Result := bitR8 .i5 (.reg .d) 2 s

/-- BIT 5,E (R213). -/
def execBit5E (s : State) : Result := bitR8 .i5 (.reg .e) 2 s

/-- BIT 5,H (R213). -/
def execBit5H (s : State) : Result := bitR8 .i5 (.reg .h) 2 s

/-- BIT 5,L (R213). -/
def execBit5L (s : State) : Result := bitR8 .i5 (.reg .l) 2 s

/-- BIT 5,(HL) (R213). -/
def execBit5IndHl (s : State) : Result := bitR8 .i5 .indHl 3 s

/-- BIT 5,A (R213). -/
def execBit5A (s : State) : Result := bitR8 .i5 (.reg .a) 2 s

/-- BIT 6,B (R213). -/
def execBit6B (s : State) : Result := bitR8 .i6 (.reg .b) 2 s

/-- BIT 6,C (R213). -/
def execBit6C (s : State) : Result := bitR8 .i6 (.reg .c) 2 s

/-- BIT 6,D (R213). -/
def execBit6D (s : State) : Result := bitR8 .i6 (.reg .d) 2 s

/-- BIT 6,E (R213). -/
def execBit6E (s : State) : Result := bitR8 .i6 (.reg .e) 2 s

/-- BIT 6,H (R213). -/
def execBit6H (s : State) : Result := bitR8 .i6 (.reg .h) 2 s

/-- BIT 6,L (R213). -/
def execBit6L (s : State) : Result := bitR8 .i6 (.reg .l) 2 s

/-- BIT 6,(HL) (R213). -/
def execBit6IndHl (s : State) : Result := bitR8 .i6 .indHl 3 s

/-- BIT 6,A (R213). -/
def execBit6A (s : State) : Result := bitR8 .i6 (.reg .a) 2 s

/-- BIT 7,B (R213). -/
def execBit7B (s : State) : Result := bitR8 .i7 (.reg .b) 2 s

/-- BIT 7,C (R213). -/
def execBit7C (s : State) : Result := bitR8 .i7 (.reg .c) 2 s

/-- BIT 7,D (R213). -/
def execBit7D (s : State) : Result := bitR8 .i7 (.reg .d) 2 s

/-- BIT 7,E (R213). -/
def execBit7E (s : State) : Result := bitR8 .i7 (.reg .e) 2 s

/-- BIT 7,H (R213). -/
def execBit7H (s : State) : Result := bitR8 .i7 (.reg .h) 2 s

/-- BIT 7,L (R213). -/
def execBit7L (s : State) : Result := bitR8 .i7 (.reg .l) 2 s

/-- BIT 7,(HL) (R213). -/
def execBit7IndHl (s : State) : Result := bitR8 .i7 .indHl 3 s

/-- BIT 7,A (R213). -/
def execBit7A (s : State) : Result := bitR8 .i7 (.reg .a) 2 s

/-- RES 0,B (R214). -/
def execRes0B (s : State) : Result := resR8 .i0 (.reg .b) 2 s

/-- RES 0,C (R214). -/
def execRes0C (s : State) : Result := resR8 .i0 (.reg .c) 2 s

/-- RES 0,D (R214). -/
def execRes0D (s : State) : Result := resR8 .i0 (.reg .d) 2 s

/-- RES 0,E (R214). -/
def execRes0E (s : State) : Result := resR8 .i0 (.reg .e) 2 s

/-- RES 0,H (R214). -/
def execRes0H (s : State) : Result := resR8 .i0 (.reg .h) 2 s

/-- RES 0,L (R214). -/
def execRes0L (s : State) : Result := resR8 .i0 (.reg .l) 2 s

/-- RES 0,(HL) (R214). -/
def execRes0IndHl (s : State) : Result := resR8 .i0 .indHl 4 s

/-- RES 0,A (R214). -/
def execRes0A (s : State) : Result := resR8 .i0 (.reg .a) 2 s

/-- RES 1,B (R214). -/
def execRes1B (s : State) : Result := resR8 .i1 (.reg .b) 2 s

/-- RES 1,C (R214). -/
def execRes1C (s : State) : Result := resR8 .i1 (.reg .c) 2 s

/-- RES 1,D (R214). -/
def execRes1D (s : State) : Result := resR8 .i1 (.reg .d) 2 s

/-- RES 1,E (R214). -/
def execRes1E (s : State) : Result := resR8 .i1 (.reg .e) 2 s

/-- RES 1,H (R214). -/
def execRes1H (s : State) : Result := resR8 .i1 (.reg .h) 2 s

/-- RES 1,L (R214). -/
def execRes1L (s : State) : Result := resR8 .i1 (.reg .l) 2 s

/-- RES 1,(HL) (R214). -/
def execRes1IndHl (s : State) : Result := resR8 .i1 .indHl 4 s

/-- RES 1,A (R214). -/
def execRes1A (s : State) : Result := resR8 .i1 (.reg .a) 2 s

/-- RES 2,B (R214). -/
def execRes2B (s : State) : Result := resR8 .i2 (.reg .b) 2 s

/-- RES 2,C (R214). -/
def execRes2C (s : State) : Result := resR8 .i2 (.reg .c) 2 s

/-- RES 2,D (R214). -/
def execRes2D (s : State) : Result := resR8 .i2 (.reg .d) 2 s

/-- RES 2,E (R214). -/
def execRes2E (s : State) : Result := resR8 .i2 (.reg .e) 2 s

/-- RES 2,H (R214). -/
def execRes2H (s : State) : Result := resR8 .i2 (.reg .h) 2 s

/-- RES 2,L (R214). -/
def execRes2L (s : State) : Result := resR8 .i2 (.reg .l) 2 s

/-- RES 2,(HL) (R214). -/
def execRes2IndHl (s : State) : Result := resR8 .i2 .indHl 4 s

/-- RES 2,A (R214). -/
def execRes2A (s : State) : Result := resR8 .i2 (.reg .a) 2 s

/-- RES 3,B (R214). -/
def execRes3B (s : State) : Result := resR8 .i3 (.reg .b) 2 s

/-- RES 3,C (R214). -/
def execRes3C (s : State) : Result := resR8 .i3 (.reg .c) 2 s

/-- RES 3,D (R214). -/
def execRes3D (s : State) : Result := resR8 .i3 (.reg .d) 2 s

/-- RES 3,E (R214). -/
def execRes3E (s : State) : Result := resR8 .i3 (.reg .e) 2 s

/-- RES 3,H (R214). -/
def execRes3H (s : State) : Result := resR8 .i3 (.reg .h) 2 s

/-- RES 3,L (R214). -/
def execRes3L (s : State) : Result := resR8 .i3 (.reg .l) 2 s

/-- RES 3,(HL) (R214). -/
def execRes3IndHl (s : State) : Result := resR8 .i3 .indHl 4 s

/-- RES 3,A (R214). -/
def execRes3A (s : State) : Result := resR8 .i3 (.reg .a) 2 s

/-- RES 4,B (R214). -/
def execRes4B (s : State) : Result := resR8 .i4 (.reg .b) 2 s

/-- RES 4,C (R214). -/
def execRes4C (s : State) : Result := resR8 .i4 (.reg .c) 2 s

/-- RES 4,D (R214). -/
def execRes4D (s : State) : Result := resR8 .i4 (.reg .d) 2 s

/-- RES 4,E (R214). -/
def execRes4E (s : State) : Result := resR8 .i4 (.reg .e) 2 s

/-- RES 4,H (R214). -/
def execRes4H (s : State) : Result := resR8 .i4 (.reg .h) 2 s

/-- RES 4,L (R214). -/
def execRes4L (s : State) : Result := resR8 .i4 (.reg .l) 2 s

/-- RES 4,(HL) (R214). -/
def execRes4IndHl (s : State) : Result := resR8 .i4 .indHl 4 s

/-- RES 4,A (R214). -/
def execRes4A (s : State) : Result := resR8 .i4 (.reg .a) 2 s

/-- RES 5,B (R214). -/
def execRes5B (s : State) : Result := resR8 .i5 (.reg .b) 2 s

/-- RES 5,C (R214). -/
def execRes5C (s : State) : Result := resR8 .i5 (.reg .c) 2 s

/-- RES 5,D (R214). -/
def execRes5D (s : State) : Result := resR8 .i5 (.reg .d) 2 s

/-- RES 5,E (R214). -/
def execRes5E (s : State) : Result := resR8 .i5 (.reg .e) 2 s

/-- RES 5,H (R214). -/
def execRes5H (s : State) : Result := resR8 .i5 (.reg .h) 2 s

/-- RES 5,L (R214). -/
def execRes5L (s : State) : Result := resR8 .i5 (.reg .l) 2 s

/-- RES 5,(HL) (R214). -/
def execRes5IndHl (s : State) : Result := resR8 .i5 .indHl 4 s

/-- RES 5,A (R214). -/
def execRes5A (s : State) : Result := resR8 .i5 (.reg .a) 2 s

/-- RES 6,B (R214). -/
def execRes6B (s : State) : Result := resR8 .i6 (.reg .b) 2 s

/-- RES 6,C (R214). -/
def execRes6C (s : State) : Result := resR8 .i6 (.reg .c) 2 s

/-- RES 6,D (R214). -/
def execRes6D (s : State) : Result := resR8 .i6 (.reg .d) 2 s

/-- RES 6,E (R214). -/
def execRes6E (s : State) : Result := resR8 .i6 (.reg .e) 2 s

/-- RES 6,H (R214). -/
def execRes6H (s : State) : Result := resR8 .i6 (.reg .h) 2 s

/-- RES 6,L (R214). -/
def execRes6L (s : State) : Result := resR8 .i6 (.reg .l) 2 s

/-- RES 6,(HL) (R214). -/
def execRes6IndHl (s : State) : Result := resR8 .i6 .indHl 4 s

/-- RES 6,A (R214). -/
def execRes6A (s : State) : Result := resR8 .i6 (.reg .a) 2 s

/-- RES 7,B (R214). -/
def execRes7B (s : State) : Result := resR8 .i7 (.reg .b) 2 s

/-- RES 7,C (R214). -/
def execRes7C (s : State) : Result := resR8 .i7 (.reg .c) 2 s

/-- RES 7,D (R214). -/
def execRes7D (s : State) : Result := resR8 .i7 (.reg .d) 2 s

/-- RES 7,E (R214). -/
def execRes7E (s : State) : Result := resR8 .i7 (.reg .e) 2 s

/-- RES 7,H (R214). -/
def execRes7H (s : State) : Result := resR8 .i7 (.reg .h) 2 s

/-- RES 7,L (R214). -/
def execRes7L (s : State) : Result := resR8 .i7 (.reg .l) 2 s

/-- RES 7,(HL) (R214). -/
def execRes7IndHl (s : State) : Result := resR8 .i7 .indHl 4 s

/-- RES 7,A (R214). -/
def execRes7A (s : State) : Result := resR8 .i7 (.reg .a) 2 s

/-- SET 0,B (R215). -/
def execSet0B (s : State) : Result := setR8 .i0 (.reg .b) 2 s

/-- SET 0,C (R215). -/
def execSet0C (s : State) : Result := setR8 .i0 (.reg .c) 2 s

/-- SET 0,D (R215). -/
def execSet0D (s : State) : Result := setR8 .i0 (.reg .d) 2 s

/-- SET 0,E (R215). -/
def execSet0E (s : State) : Result := setR8 .i0 (.reg .e) 2 s

/-- SET 0,H (R215). -/
def execSet0H (s : State) : Result := setR8 .i0 (.reg .h) 2 s

/-- SET 0,L (R215). -/
def execSet0L (s : State) : Result := setR8 .i0 (.reg .l) 2 s

/-- SET 0,(HL) (R215). -/
def execSet0IndHl (s : State) : Result := setR8 .i0 .indHl 4 s

/-- SET 0,A (R215). -/
def execSet0A (s : State) : Result := setR8 .i0 (.reg .a) 2 s

/-- SET 1,B (R215). -/
def execSet1B (s : State) : Result := setR8 .i1 (.reg .b) 2 s

/-- SET 1,C (R215). -/
def execSet1C (s : State) : Result := setR8 .i1 (.reg .c) 2 s

/-- SET 1,D (R215). -/
def execSet1D (s : State) : Result := setR8 .i1 (.reg .d) 2 s

/-- SET 1,E (R215). -/
def execSet1E (s : State) : Result := setR8 .i1 (.reg .e) 2 s

/-- SET 1,H (R215). -/
def execSet1H (s : State) : Result := setR8 .i1 (.reg .h) 2 s

/-- SET 1,L (R215). -/
def execSet1L (s : State) : Result := setR8 .i1 (.reg .l) 2 s

/-- SET 1,(HL) (R215). -/
def execSet1IndHl (s : State) : Result := setR8 .i1 .indHl 4 s

/-- SET 1,A (R215). -/
def execSet1A (s : State) : Result := setR8 .i1 (.reg .a) 2 s

/-- SET 2,B (R215). -/
def execSet2B (s : State) : Result := setR8 .i2 (.reg .b) 2 s

/-- SET 2,C (R215). -/
def execSet2C (s : State) : Result := setR8 .i2 (.reg .c) 2 s

/-- SET 2,D (R215). -/
def execSet2D (s : State) : Result := setR8 .i2 (.reg .d) 2 s

/-- SET 2,E (R215). -/
def execSet2E (s : State) : Result := setR8 .i2 (.reg .e) 2 s

/-- SET 2,H (R215). -/
def execSet2H (s : State) : Result := setR8 .i2 (.reg .h) 2 s

/-- SET 2,L (R215). -/
def execSet2L (s : State) : Result := setR8 .i2 (.reg .l) 2 s

/-- SET 2,(HL) (R215). -/
def execSet2IndHl (s : State) : Result := setR8 .i2 .indHl 4 s

/-- SET 2,A (R215). -/
def execSet2A (s : State) : Result := setR8 .i2 (.reg .a) 2 s

/-- SET 3,B (R215). -/
def execSet3B (s : State) : Result := setR8 .i3 (.reg .b) 2 s

/-- SET 3,C (R215). -/
def execSet3C (s : State) : Result := setR8 .i3 (.reg .c) 2 s

/-- SET 3,D (R215). -/
def execSet3D (s : State) : Result := setR8 .i3 (.reg .d) 2 s

/-- SET 3,E (R215). -/
def execSet3E (s : State) : Result := setR8 .i3 (.reg .e) 2 s

/-- SET 3,H (R215). -/
def execSet3H (s : State) : Result := setR8 .i3 (.reg .h) 2 s

/-- SET 3,L (R215). -/
def execSet3L (s : State) : Result := setR8 .i3 (.reg .l) 2 s

/-- SET 3,(HL) (R215). -/
def execSet3IndHl (s : State) : Result := setR8 .i3 .indHl 4 s

/-- SET 3,A (R215). -/
def execSet3A (s : State) : Result := setR8 .i3 (.reg .a) 2 s

/-- SET 4,B (R215). -/
def execSet4B (s : State) : Result := setR8 .i4 (.reg .b) 2 s

/-- SET 4,C (R215). -/
def execSet4C (s : State) : Result := setR8 .i4 (.reg .c) 2 s

/-- SET 4,D (R215). -/
def execSet4D (s : State) : Result := setR8 .i4 (.reg .d) 2 s

/-- SET 4,E (R215). -/
def execSet4E (s : State) : Result := setR8 .i4 (.reg .e) 2 s

/-- SET 4,H (R215). -/
def execSet4H (s : State) : Result := setR8 .i4 (.reg .h) 2 s

/-- SET 4,L (R215). -/
def execSet4L (s : State) : Result := setR8 .i4 (.reg .l) 2 s

/-- SET 4,(HL) (R215). -/
def execSet4IndHl (s : State) : Result := setR8 .i4 .indHl 4 s

/-- SET 4,A (R215). -/
def execSet4A (s : State) : Result := setR8 .i4 (.reg .a) 2 s

/-- SET 5,B (R215). -/
def execSet5B (s : State) : Result := setR8 .i5 (.reg .b) 2 s

/-- SET 5,C (R215). -/
def execSet5C (s : State) : Result := setR8 .i5 (.reg .c) 2 s

/-- SET 5,D (R215). -/
def execSet5D (s : State) : Result := setR8 .i5 (.reg .d) 2 s

/-- SET 5,E (R215). -/
def execSet5E (s : State) : Result := setR8 .i5 (.reg .e) 2 s

/-- SET 5,H (R215). -/
def execSet5H (s : State) : Result := setR8 .i5 (.reg .h) 2 s

/-- SET 5,L (R215). -/
def execSet5L (s : State) : Result := setR8 .i5 (.reg .l) 2 s

/-- SET 5,(HL) (R215). -/
def execSet5IndHl (s : State) : Result := setR8 .i5 .indHl 4 s

/-- SET 5,A (R215). -/
def execSet5A (s : State) : Result := setR8 .i5 (.reg .a) 2 s

/-- SET 6,B (R215). -/
def execSet6B (s : State) : Result := setR8 .i6 (.reg .b) 2 s

/-- SET 6,C (R215). -/
def execSet6C (s : State) : Result := setR8 .i6 (.reg .c) 2 s

/-- SET 6,D (R215). -/
def execSet6D (s : State) : Result := setR8 .i6 (.reg .d) 2 s

/-- SET 6,E (R215). -/
def execSet6E (s : State) : Result := setR8 .i6 (.reg .e) 2 s

/-- SET 6,H (R215). -/
def execSet6H (s : State) : Result := setR8 .i6 (.reg .h) 2 s

/-- SET 6,L (R215). -/
def execSet6L (s : State) : Result := setR8 .i6 (.reg .l) 2 s

/-- SET 6,(HL) (R215). -/
def execSet6IndHl (s : State) : Result := setR8 .i6 .indHl 4 s

/-- SET 6,A (R215). -/
def execSet6A (s : State) : Result := setR8 .i6 (.reg .a) 2 s

/-- SET 7,B (R215). -/
def execSet7B (s : State) : Result := setR8 .i7 (.reg .b) 2 s

/-- SET 7,C (R215). -/
def execSet7C (s : State) : Result := setR8 .i7 (.reg .c) 2 s

/-- SET 7,D (R215). -/
def execSet7D (s : State) : Result := setR8 .i7 (.reg .d) 2 s

/-- SET 7,E (R215). -/
def execSet7E (s : State) : Result := setR8 .i7 (.reg .e) 2 s

/-- SET 7,H (R215). -/
def execSet7H (s : State) : Result := setR8 .i7 (.reg .h) 2 s

/-- SET 7,L (R215). -/
def execSet7L (s : State) : Result := setR8 .i7 (.reg .l) 2 s

/-- SET 7,(HL) (R215). -/
def execSet7IndHl (s : State) : Result := setR8 .i7 .indHl 4 s

/-- SET 7,A (R215). -/
def execSet7A (s : State) : Result := setR8 .i7 (.reg .a) 2 s

end Sys2Proof.Machine
end

