-- ==== Sys2Proof/Machine/Control.lean ====
section
/-! DEFINITION. The control transfers (45_control.md). No flag is written. Each meaning is given the state whose pc stands after the
instruction's bytes (30_encoding.md R91). -/

namespace Sys2Proof.Machine

/-- JR e8 (R233). -/
def execJrE8 (e : Byte) (s : State) : Result := done 3 (s.setPc (relTarget e s))

/-- JR NZ,e8 (R234). -/
def execJrNzE8 (e : Byte) (s : State) : Result := jumpIf (condHolds .nz s) (relTarget e s) 2 3 s

/-- JR Z,e8 (R234). -/
def execJrZE8 (e : Byte) (s : State) : Result := jumpIf (condHolds .z s) (relTarget e s) 2 3 s

/-- JR NC,e8 (R234). -/
def execJrNcE8 (e : Byte) (s : State) : Result := jumpIf (condHolds .nc s) (relTarget e s) 2 3 s

/-- JR C,e8 (R234). -/
def execJrCE8 (e : Byte) (s : State) : Result := jumpIf (condHolds .c s) (relTarget e s) 2 3 s

/-- RET NZ (R238). -/
def execRetNz (s : State) : Result := returnIf (condHolds .nz s) 2 5 s

/-- JP NZ,a16 (R231). -/
def execJpNzA16 (nn : Word) (s : State) : Result := jumpIf (condHolds .nz s) nn 3 4 s

/-- JP a16 (R230). -/
def execJpA16 (nn : Word) (s : State) : Result := done 4 (s.setPc nn)

/-- CALL NZ,a16 (R236). -/
def execCallNzA16 (nn : Word) (s : State) : Result := callIf (condHolds .nz s) nn 3 6 s

/-- RST 00h (R239). -/
def execRst00 (s : State) : Result := (callTo 0x00 s).finish 4

/-- RET Z (R238). -/
def execRetZ (s : State) : Result := returnIf (condHolds .z s) 2 5 s

/-- RET (R237). -/
def execRet (s : State) : Result := (popPc s).finish 4

/-- JP Z,a16 (R231). -/
def execJpZA16 (nn : Word) (s : State) : Result := jumpIf (condHolds .z s) nn 3 4 s

/-- CALL Z,a16 (R236). -/
def execCallZA16 (nn : Word) (s : State) : Result := callIf (condHolds .z s) nn 3 6 s

/-- CALL a16 (R235). -/
def execCallA16 (nn : Word) (s : State) : Result := (callTo nn s).finish 6

/-- RST 08h (R239). -/
def execRst08 (s : State) : Result := (callTo 0x08 s).finish 4

/-- RET NC (R238). -/
def execRetNc (s : State) : Result := returnIf (condHolds .nc s) 2 5 s

/-- JP NC,a16 (R231). -/
def execJpNcA16 (nn : Word) (s : State) : Result := jumpIf (condHolds .nc s) nn 3 4 s

/-- CALL NC,a16 (R236). -/
def execCallNcA16 (nn : Word) (s : State) : Result := callIf (condHolds .nc s) nn 3 6 s

/-- RST 10h (R239). -/
def execRst10 (s : State) : Result := (callTo 0x10 s).finish 4

/-- RET C (R238). -/
def execRetC (s : State) : Result := returnIf (condHolds .c s) 2 5 s

/-- RETI (R242). -/
def execReti (s : State) : Result := (returnFromInterrupt s).finish 4

/-- JP C,a16 (R231). -/
def execJpCA16 (nn : Word) (s : State) : Result := jumpIf (condHolds .c s) nn 3 4 s

/-- CALL C,a16 (R236). -/
def execCallCA16 (nn : Word) (s : State) : Result := callIf (condHolds .c s) nn 3 6 s

/-- RST 18h (R239). -/
def execRst18 (s : State) : Result := (callTo 0x18 s).finish 4

/-- RST 20h (R239). -/
def execRst20 (s : State) : Result := (callTo 0x20 s).finish 4

/-- JP HL (R232). No memory access. -/
def execJpHl (s : State) : Result := done 1 (s.setPc s.hl)

/-- RST 28h (R239). -/
def execRst28 (s : State) : Result := (callTo 0x28 s).finish 4

/-- RST 30h (R239). -/
def execRst30 (s : State) : Result := (callTo 0x30 s).finish 4

/-- RST 38h (R239). -/
def execRst38 (s : State) : Result := (callTo 0x38 s).finish 4

end Sys2Proof.Machine
end

