-- ==== Sys2Proof/Machine/Load16.lean ====
section
/-! DEFINITION. The 16-bit loads and the stack instructions (41_load16_stack.md). Each meaning is given the state whose pc stands after the
instruction's bytes (30_encoding.md R91). -/

namespace Sys2Proof.Machine

/-- LD BC,d16 (R141). -/
def execLdBcD16 (nn : Word) (s : State) : Result := done 3 (s.set16 .bc nn)

/-- LD (a16),SP (R142). -/
def execLdIndA16Sp (nn : Word) (s : State) : Result := (busWrite16 nn s.sp s).finish 5

/-- LD DE,d16 (R141). -/
def execLdDeD16 (nn : Word) (s : State) : Result := done 3 (s.set16 .de nn)

/-- LD HL,d16 (R141). -/
def execLdHlD16 (nn : Word) (s : State) : Result := done 3 (s.set16 .hl nn)

/-- LD SP,d16 (R141). -/
def execLdSpD16 (nn : Word) (s : State) : Result := done 3 (s.set16 .sp nn)

/-- POP BC (R145). -/
def execPopBc (s : State) : Result := popPair .bc 3 s

/-- PUSH BC (R144). -/
def execPushBc (s : State) : Result := pushPair .bc 4 s

/-- POP DE (R145). -/
def execPopDe (s : State) : Result := popPair .de 3 s

/-- PUSH DE (R144). -/
def execPushDe (s : State) : Result := pushPair .de 4 s

/-- POP HL (R145). -/
def execPopHl (s : State) : Result := popPair .hl 3 s

/-- PUSH HL (R144). -/
def execPushHl (s : State) : Result := pushPair .hl 4 s

/-- POP AF (R146). -/
def execPopAf (s : State) : Result := popPair .af 3 s

/-- PUSH AF (R144). -/
def execPushAf (s : State) : Result := pushPair .af 4 s

/-- LD SP,HL (R143). -/
def execLdSpHl (s : State) : Result := done 2 (s.setSp s.hl)

end Sys2Proof.Machine
end

