-- ==== Sys2Proof/Machine/Load8.lean ====
section
/-! DEFINITION. The 8-bit loads (40_load8.md). No flag is written. Each meaning is given the state whose pc stands after the
instruction's bytes (30_encoding.md R91). -/

namespace Sys2Proof.Machine

/-- LD (BC),A (R116). -/
def execLdIndBcA (s : State) : Result := storeByte s.bc s.regs.a 2 s

/-- LD B,d8 (R113). -/
def execLdBD8 (n : Byte) (s : State) : Result := done 2 (s.set8 .b n)

/-- LD A,(BC) (R115). -/
def execLdAIndBc (s : State) : Result := loadReg .a s.bc 2 s

/-- LD C,d8 (R113). -/
def execLdCD8 (n : Byte) (s : State) : Result := done 2 (s.set8 .c n)

/-- LD (DE),A (R116). -/
def execLdIndDeA (s : State) : Result := storeByte s.de s.regs.a 2 s

/-- LD D,d8 (R113). -/
def execLdDD8 (n : Byte) (s : State) : Result := done 2 (s.set8 .d n)

/-- LD A,(DE) (R115). -/
def execLdAIndDe (s : State) : Result := loadReg .a s.de 2 s

/-- LD E,d8 (R113). -/
def execLdED8 (n : Byte) (s : State) : Result := done 2 (s.set8 .e n)

/-- LD (HL+),A (R123). -/
def execLdIndHlIncA (s : State) : Result := storeMoveHl 1 2 s

/-- LD H,d8 (R113). -/
def execLdHD8 (n : Byte) (s : State) : Result := done 2 (s.set8 .h n)

/-- LD A,(HL+) (R125). -/
def execLdAIndHlInc (s : State) : Result := loadMoveHl 1 2 s

/-- LD L,d8 (R113). -/
def execLdLD8 (n : Byte) (s : State) : Result := done 2 (s.set8 .l n)

/-- LD (HL-),A (R124). -/
def execLdIndHlDecA (s : State) : Result := storeMoveHl (-1) 2 s

/-- LD (HL),d8 (R114). -/
def execLdIndHlD8 (n : Byte) (s : State) : Result := storeByte s.hl n 3 s

/-- LD A,(HL-) (R126). -/
def execLdAIndHlDec (s : State) : Result := loadMoveHl (-1) 2 s

/-- LD A,d8 (R113). -/
def execLdAD8 (n : Byte) (s : State) : Result := done 2 (s.set8 .a n)

/-- LD B,B (R110). -/
def execLdBB (s : State) : Result := done 1 (s.set8 .b (s.get8 .b))

/-- LD B,C (R110). -/
def execLdBC (s : State) : Result := done 1 (s.set8 .b (s.get8 .c))

/-- LD B,D (R110). -/
def execLdBD (s : State) : Result := done 1 (s.set8 .b (s.get8 .d))

/-- LD B,E (R110). -/
def execLdBE (s : State) : Result := done 1 (s.set8 .b (s.get8 .e))

/-- LD B,H (R110). -/
def execLdBH (s : State) : Result := done 1 (s.set8 .b (s.get8 .h))

/-- LD B,L (R110). -/
def execLdBL (s : State) : Result := done 1 (s.set8 .b (s.get8 .l))

/-- LD B,(HL) (R111). -/
def execLdBIndHl (s : State) : Result := loadReg .b s.hl 2 s

/-- LD B,A (R110). -/
def execLdBA (s : State) : Result := done 1 (s.set8 .b (s.get8 .a))

/-- LD C,B (R110). -/
def execLdCB (s : State) : Result := done 1 (s.set8 .c (s.get8 .b))

/-- LD C,C (R110). -/
def execLdCC (s : State) : Result := done 1 (s.set8 .c (s.get8 .c))

/-- LD C,D (R110). -/
def execLdCD (s : State) : Result := done 1 (s.set8 .c (s.get8 .d))

/-- LD C,E (R110). -/
def execLdCE (s : State) : Result := done 1 (s.set8 .c (s.get8 .e))

/-- LD C,H (R110). -/
def execLdCH (s : State) : Result := done 1 (s.set8 .c (s.get8 .h))

/-- LD C,L (R110). -/
def execLdCL (s : State) : Result := done 1 (s.set8 .c (s.get8 .l))

/-- LD C,(HL) (R111). -/
def execLdCIndHl (s : State) : Result := loadReg .c s.hl 2 s

/-- LD C,A (R110). -/
def execLdCA (s : State) : Result := done 1 (s.set8 .c (s.get8 .a))

/-- LD D,B (R110). -/
def execLdDB (s : State) : Result := done 1 (s.set8 .d (s.get8 .b))

/-- LD D,C (R110). -/
def execLdDC (s : State) : Result := done 1 (s.set8 .d (s.get8 .c))

/-- LD D,D (R110). -/
def execLdDD (s : State) : Result := done 1 (s.set8 .d (s.get8 .d))

/-- LD D,E (R110). -/
def execLdDE (s : State) : Result := done 1 (s.set8 .d (s.get8 .e))

/-- LD D,H (R110). -/
def execLdDH (s : State) : Result := done 1 (s.set8 .d (s.get8 .h))

/-- LD D,L (R110). -/
def execLdDL (s : State) : Result := done 1 (s.set8 .d (s.get8 .l))

/-- LD D,(HL) (R111). -/
def execLdDIndHl (s : State) : Result := loadReg .d s.hl 2 s

/-- LD D,A (R110). -/
def execLdDA (s : State) : Result := done 1 (s.set8 .d (s.get8 .a))

/-- LD E,B (R110). -/
def execLdEB (s : State) : Result := done 1 (s.set8 .e (s.get8 .b))

/-- LD E,C (R110). -/
def execLdEC (s : State) : Result := done 1 (s.set8 .e (s.get8 .c))

/-- LD E,D (R110). -/
def execLdED (s : State) : Result := done 1 (s.set8 .e (s.get8 .d))

/-- LD E,E (R110). -/
def execLdEE (s : State) : Result := done 1 (s.set8 .e (s.get8 .e))

/-- LD E,H (R110). -/
def execLdEH (s : State) : Result := done 1 (s.set8 .e (s.get8 .h))

/-- LD E,L (R110). -/
def execLdEL (s : State) : Result := done 1 (s.set8 .e (s.get8 .l))

/-- LD E,(HL) (R111). -/
def execLdEIndHl (s : State) : Result := loadReg .e s.hl 2 s

/-- LD E,A (R110). -/
def execLdEA (s : State) : Result := done 1 (s.set8 .e (s.get8 .a))

/-- LD H,B (R110). -/
def execLdHB (s : State) : Result := done 1 (s.set8 .h (s.get8 .b))

/-- LD H,C (R110). -/
def execLdHC (s : State) : Result := done 1 (s.set8 .h (s.get8 .c))

/-- LD H,D (R110). -/
def execLdHD (s : State) : Result := done 1 (s.set8 .h (s.get8 .d))

/-- LD H,E (R110). -/
def execLdHE (s : State) : Result := done 1 (s.set8 .h (s.get8 .e))

/-- LD H,H (R110). -/
def execLdHH (s : State) : Result := done 1 (s.set8 .h (s.get8 .h))

/-- LD H,L (R110). -/
def execLdHL (s : State) : Result := done 1 (s.set8 .h (s.get8 .l))

/-- LD H,(HL) (R111). -/
def execLdHIndHl (s : State) : Result := loadReg .h s.hl 2 s

/-- LD H,A (R110). -/
def execLdHA (s : State) : Result := done 1 (s.set8 .h (s.get8 .a))

/-- LD L,B (R110). -/
def execLdLB (s : State) : Result := done 1 (s.set8 .l (s.get8 .b))

/-- LD L,C (R110). -/
def execLdLC (s : State) : Result := done 1 (s.set8 .l (s.get8 .c))

/-- LD L,D (R110). -/
def execLdLD (s : State) : Result := done 1 (s.set8 .l (s.get8 .d))

/-- LD L,E (R110). -/
def execLdLE (s : State) : Result := done 1 (s.set8 .l (s.get8 .e))

/-- LD L,H (R110). -/
def execLdLH (s : State) : Result := done 1 (s.set8 .l (s.get8 .h))

/-- LD L,L (R110). -/
def execLdLL (s : State) : Result := done 1 (s.set8 .l (s.get8 .l))

/-- LD L,(HL) (R111). -/
def execLdLIndHl (s : State) : Result := loadReg .l s.hl 2 s

/-- LD L,A (R110). -/
def execLdLA (s : State) : Result := done 1 (s.set8 .l (s.get8 .a))

/-- LD (HL),B (R112). -/
def execLdIndHlB (s : State) : Result := storeByte s.hl (s.get8 .b) 2 s

/-- LD (HL),C (R112). -/
def execLdIndHlC (s : State) : Result := storeByte s.hl (s.get8 .c) 2 s

/-- LD (HL),D (R112). -/
def execLdIndHlD (s : State) : Result := storeByte s.hl (s.get8 .d) 2 s

/-- LD (HL),E (R112). -/
def execLdIndHlE (s : State) : Result := storeByte s.hl (s.get8 .e) 2 s

/-- LD (HL),H (R112). -/
def execLdIndHlH (s : State) : Result := storeByte s.hl (s.get8 .h) 2 s

/-- LD (HL),L (R112). -/
def execLdIndHlL (s : State) : Result := storeByte s.hl (s.get8 .l) 2 s

/-- LD (HL),A (R112). -/
def execLdIndHlA (s : State) : Result := storeByte s.hl (s.get8 .a) 2 s

/-- LD A,B (R110). -/
def execLdAB (s : State) : Result := done 1 (s.set8 .a (s.get8 .b))

/-- LD A,C (R110). -/
def execLdAC (s : State) : Result := done 1 (s.set8 .a (s.get8 .c))

/-- LD A,D (R110). -/
def execLdAD (s : State) : Result := done 1 (s.set8 .a (s.get8 .d))

/-- LD A,E (R110). -/
def execLdAE (s : State) : Result := done 1 (s.set8 .a (s.get8 .e))

/-- LD A,H (R110). -/
def execLdAH (s : State) : Result := done 1 (s.set8 .a (s.get8 .h))

/-- LD A,L (R110). -/
def execLdAL (s : State) : Result := done 1 (s.set8 .a (s.get8 .l))

/-- LD A,(HL) (R111). -/
def execLdAIndHl (s : State) : Result := loadReg .a s.hl 2 s

/-- LD A,A (R110). -/
def execLdAA (s : State) : Result := done 1 (s.set8 .a (s.get8 .a))

/-- LDH (a8),A (R120). -/
def execLdhIndA8A (n : Byte) (s : State) : Result := storeByte (highPage n) s.regs.a 3 s

/-- LD (C),A (R122). -/
def execLdIndCA (s : State) : Result := storeByte (highPage s.regs.c) s.regs.a 2 s

/-- LD (a16),A (R118). -/
def execLdIndA16A (nn : Word) (s : State) : Result := storeByte nn s.regs.a 4 s

/-- LDH A,(a8) (R119). -/
def execLdhAIndA8 (n : Byte) (s : State) : Result := loadReg .a (highPage n) 3 s

/-- LD A,(C) (R121). -/
def execLdAIndC (s : State) : Result := loadReg .a (highPage s.regs.c) 2 s

/-- LD A,(a16) (R117). -/
def execLdAIndA16 (nn : Word) (s : State) : Result := loadReg .a nn 4 s

end Sys2Proof.Machine
end

