-- ==== Sys2Proof/Machine/Rotate.lean ====
section
/-! DEFINITION. The rotates and shifts (44_rotate_shift_bit.md R200 to R212). Each meaning is given the state whose pc stands after the
instruction's bytes (30_encoding.md R91). -/

namespace Sys2Proof.Machine

/-- RLCA (R200). -/
def execRlca (s : State) : Result := rotateA .rlc s

/-- RRCA (R201). -/
def execRrca (s : State) : Result := rotateA .rrc s

/-- RLA (R202). -/
def execRla (s : State) : Result := rotateA .rl s

/-- RRA (R203). -/
def execRra (s : State) : Result := rotateA .rr s

/-- RLC B (R205). -/
def execRlcB (s : State) : Result := shiftR8 .rlc (.reg .b) 2 s

/-- RLC C (R205). -/
def execRlcC (s : State) : Result := shiftR8 .rlc (.reg .c) 2 s

/-- RLC D (R205). -/
def execRlcD (s : State) : Result := shiftR8 .rlc (.reg .d) 2 s

/-- RLC E (R205). -/
def execRlcE (s : State) : Result := shiftR8 .rlc (.reg .e) 2 s

/-- RLC H (R205). -/
def execRlcH (s : State) : Result := shiftR8 .rlc (.reg .h) 2 s

/-- RLC L (R205). -/
def execRlcL (s : State) : Result := shiftR8 .rlc (.reg .l) 2 s

/-- RLC (HL) (R205). -/
def execRlcIndHl (s : State) : Result := shiftR8 .rlc .indHl 4 s

/-- RLC A (R205). -/
def execRlcA (s : State) : Result := shiftR8 .rlc (.reg .a) 2 s

/-- RRC B (R206). -/
def execRrcB (s : State) : Result := shiftR8 .rrc (.reg .b) 2 s

/-- RRC C (R206). -/
def execRrcC (s : State) : Result := shiftR8 .rrc (.reg .c) 2 s

/-- RRC D (R206). -/
def execRrcD (s : State) : Result := shiftR8 .rrc (.reg .d) 2 s

/-- RRC E (R206). -/
def execRrcE (s : State) : Result := shiftR8 .rrc (.reg .e) 2 s

/-- RRC H (R206). -/
def execRrcH (s : State) : Result := shiftR8 .rrc (.reg .h) 2 s

/-- RRC L (R206). -/
def execRrcL (s : State) : Result := shiftR8 .rrc (.reg .l) 2 s

/-- RRC (HL) (R206). -/
def execRrcIndHl (s : State) : Result := shiftR8 .rrc .indHl 4 s

/-- RRC A (R206). -/
def execRrcA (s : State) : Result := shiftR8 .rrc (.reg .a) 2 s

/-- RL B (R207). -/
def execRlB (s : State) : Result := shiftR8 .rl (.reg .b) 2 s

/-- RL C (R207). -/
def execRlC (s : State) : Result := shiftR8 .rl (.reg .c) 2 s

/-- RL D (R207). -/
def execRlD (s : State) : Result := shiftR8 .rl (.reg .d) 2 s

/-- RL E (R207). -/
def execRlE (s : State) : Result := shiftR8 .rl (.reg .e) 2 s

/-- RL H (R207). -/
def execRlH (s : State) : Result := shiftR8 .rl (.reg .h) 2 s

/-- RL L (R207). -/
def execRlL (s : State) : Result := shiftR8 .rl (.reg .l) 2 s

/-- RL (HL) (R207). -/
def execRlIndHl (s : State) : Result := shiftR8 .rl .indHl 4 s

/-- RL A (R207). -/
def execRlA (s : State) : Result := shiftR8 .rl (.reg .a) 2 s

/-- RR B (R208). -/
def execRrB (s : State) : Result := shiftR8 .rr (.reg .b) 2 s

/-- RR C (R208). -/
def execRrC (s : State) : Result := shiftR8 .rr (.reg .c) 2 s

/-- RR D (R208). -/
def execRrD (s : State) : Result := shiftR8 .rr (.reg .d) 2 s

/-- RR E (R208). -/
def execRrE (s : State) : Result := shiftR8 .rr (.reg .e) 2 s

/-- RR H (R208). -/
def execRrH (s : State) : Result := shiftR8 .rr (.reg .h) 2 s

/-- RR L (R208). -/
def execRrL (s : State) : Result := shiftR8 .rr (.reg .l) 2 s

/-- RR (HL) (R208). -/
def execRrIndHl (s : State) : Result := shiftR8 .rr .indHl 4 s

/-- RR A (R208). -/
def execRrA (s : State) : Result := shiftR8 .rr (.reg .a) 2 s

/-- SLA B (R209). -/
def execSlaB (s : State) : Result := shiftR8 .sla (.reg .b) 2 s

/-- SLA C (R209). -/
def execSlaC (s : State) : Result := shiftR8 .sla (.reg .c) 2 s

/-- SLA D (R209). -/
def execSlaD (s : State) : Result := shiftR8 .sla (.reg .d) 2 s

/-- SLA E (R209). -/
def execSlaE (s : State) : Result := shiftR8 .sla (.reg .e) 2 s

/-- SLA H (R209). -/
def execSlaH (s : State) : Result := shiftR8 .sla (.reg .h) 2 s

/-- SLA L (R209). -/
def execSlaL (s : State) : Result := shiftR8 .sla (.reg .l) 2 s

/-- SLA (HL) (R209). -/
def execSlaIndHl (s : State) : Result := shiftR8 .sla .indHl 4 s

/-- SLA A (R209). -/
def execSlaA (s : State) : Result := shiftR8 .sla (.reg .a) 2 s

/-- SRA B (R210). -/
def execSraB (s : State) : Result := shiftR8 .sra (.reg .b) 2 s

/-- SRA C (R210). -/
def execSraC (s : State) : Result := shiftR8 .sra (.reg .c) 2 s

/-- SRA D (R210). -/
def execSraD (s : State) : Result := shiftR8 .sra (.reg .d) 2 s

/-- SRA E (R210). -/
def execSraE (s : State) : Result := shiftR8 .sra (.reg .e) 2 s

/-- SRA H (R210). -/
def execSraH (s : State) : Result := shiftR8 .sra (.reg .h) 2 s

/-- SRA L (R210). -/
def execSraL (s : State) : Result := shiftR8 .sra (.reg .l) 2 s

/-- SRA (HL) (R210). -/
def execSraIndHl (s : State) : Result := shiftR8 .sra .indHl 4 s

/-- SRA A (R210). -/
def execSraA (s : State) : Result := shiftR8 .sra (.reg .a) 2 s

/-- SWAP B (R211). -/
def execSwapB (s : State) : Result := shiftR8 .swap (.reg .b) 2 s

/-- SWAP C (R211). -/
def execSwapC (s : State) : Result := shiftR8 .swap (.reg .c) 2 s

/-- SWAP D (R211). -/
def execSwapD (s : State) : Result := shiftR8 .swap (.reg .d) 2 s

/-- SWAP E (R211). -/
def execSwapE (s : State) : Result := shiftR8 .swap (.reg .e) 2 s

/-- SWAP H (R211). -/
def execSwapH (s : State) : Result := shiftR8 .swap (.reg .h) 2 s

/-- SWAP L (R211). -/
def execSwapL (s : State) : Result := shiftR8 .swap (.reg .l) 2 s

/-- SWAP (HL) (R211). -/
def execSwapIndHl (s : State) : Result := shiftR8 .swap .indHl 4 s

/-- SWAP A (R211). -/
def execSwapA (s : State) : Result := shiftR8 .swap (.reg .a) 2 s

/-- SRL B (R212). -/
def execSrlB (s : State) : Result := shiftR8 .srl (.reg .b) 2 s

/-- SRL C (R212). -/
def execSrlC (s : State) : Result := shiftR8 .srl (.reg .c) 2 s

/-- SRL D (R212). -/
def execSrlD (s : State) : Result := shiftR8 .srl (.reg .d) 2 s

/-- SRL E (R212). -/
def execSrlE (s : State) : Result := shiftR8 .srl (.reg .e) 2 s

/-- SRL H (R212). -/
def execSrlH (s : State) : Result := shiftR8 .srl (.reg .h) 2 s

/-- SRL L (R212). -/
def execSrlL (s : State) : Result := shiftR8 .srl (.reg .l) 2 s

/-- SRL (HL) (R212). -/
def execSrlIndHl (s : State) : Result := shiftR8 .srl .indHl 4 s

/-- SRL A (R212). -/
def execSrlA (s : State) : Result := shiftR8 .srl (.reg .a) 2 s

end Sys2Proof.Machine
end

