-- ==== Sys2Proof/Machine/System.lean ====
section
/-! DEFINITION. The system instructions, the prefix and the undefined opcodes (46_system.md). No flag is written. Each meaning is given the state whose pc stands after the
instruction's bytes (30_encoding.md R91). -/

namespace Sys2Proof.Machine

/-- NOP (R250). -/
def execNop (s : State) : Result := done 1 s

/-- STOP (R253). The second byte was fetched and is not checked; the record holds the address of the STOP, two below the pc after its bytes. -/
def execStop (_second : Byte) (s : State) : Result :=
  match s.params.stopMode with
  | .refuse => .next (refuseRun (.stop (s.pc - 2)) (s.setStopped true))
  | .haltUntilJoypad => done 1 (s.setStopped true)

/-- HALT (R251). `halted <- true`; the scheduler does the rest (R252, R340). -/
def execHalt (s : State) : Result := done 1 (s.setHalted true)

/-- PREFIX CB (R254). The prefixed instruction `op2` names, executed from its fields; its cost includes the prefix (R421). -/
def execPrefixCb (op2 : Byte) (s : State) : Result :=
  let x := R8.ofField (fieldZ op2)
  match fieldX op2 with
  | 0 => shiftR8 (ShiftOp.ofField (fieldY op2)) x (prefixedCost x 2 4) s
  | 1 => bitR8 (fieldY op2) x (prefixedCost x 2 3) s
  | 2 => resR8 (fieldY op2) x (prefixedCost x 2 4) s
  | _ => setR8 (fieldY op2) x (prefixedCost x 2 4) s

/-- Undefined opcode 0xD3 (R257). -/
def execUndefinedD3 (s : State) : Result := undefinedOp 0xD3 s

/-- Undefined opcode 0xDB (R257). -/
def execUndefinedDB (s : State) : Result := undefinedOp 0xDB s

/-- Undefined opcode 0xDD (R257). -/
def execUndefinedDD (s : State) : Result := undefinedOp 0xDD s

/-- Undefined opcode 0xE3 (R257). -/
def execUndefinedE3 (s : State) : Result := undefinedOp 0xE3 s

/-- Undefined opcode 0xE4 (R257). -/
def execUndefinedE4 (s : State) : Result := undefinedOp 0xE4 s

/-- Undefined opcode 0xEB (R257). -/
def execUndefinedEB (s : State) : Result := undefinedOp 0xEB s

/-- Undefined opcode 0xEC (R257). -/
def execUndefinedEC (s : State) : Result := undefinedOp 0xEC s

/-- Undefined opcode 0xED (R257). -/
def execUndefinedED (s : State) : Result := undefinedOp 0xED s

/-- DI (R255). -/
def execDi (s : State) : Result := done 1 ((s.setIme false).setEi false)

/-- Undefined opcode 0xF4 (R257). -/
def execUndefinedF4 (s : State) : Result := undefinedOp 0xF4 s

/-- EI (R256). -/
def execEi (s : State) : Result := done 1 (s.setEi true)

/-- Undefined opcode 0xFC (R257). -/
def execUndefinedFC (s : State) : Result := undefinedOp 0xFC s

/-- Undefined opcode 0xFD (R257). -/
def execUndefinedFD (s : State) : Result := undefinedOp 0xFD s

end Sys2Proof.Machine
end

