-- ==== Sys2Proof/Syntax.lean ====
section
/-! DEFINITION. The instruction set: one constructor per row of spec/opcode_table.json. The rows with an immediate operand
come first, then the others, each group in the order of the table.
An operand field the opcode byte itself fixes is part of the constructor's name; the immediates of 30_encoding.md R92
are its arguments. `Ind` in a name marks an operand in parentheses. -/

namespace Sys2Proof

/-- The primary space (R98), its eleven undefined opcodes (R101), and the prefixed space (R100). -/
inductive Instr
  /-- LD BC,d16 (R141) -/
  | ldBcD16 (nn : Word)
  /-- LD B,d8 (R113) -/
  | ldBD8 (n : Byte)
  /-- LD (a16),SP (R142) -/
  | ldIndA16Sp (nn : Word)
  /-- LD C,d8 (R113) -/
  | ldCD8 (n : Byte)
  /-- STOP (R253) -/
  | stop (second : Byte)
  /-- LD DE,d16 (R141) -/
  | ldDeD16 (nn : Word)
  /-- LD D,d8 (R113) -/
  | ldDD8 (n : Byte)
  /-- JR e8 (R233) -/
  | jrE8 (e : Byte)
  /-- LD E,d8 (R113) -/
  | ldED8 (n : Byte)
  /-- JR NZ,e8 (R234) -/
  | jrNzE8 (e : Byte)
  /-- LD HL,d16 (R141) -/
  | ldHlD16 (nn : Word)
  /-- LD H,d8 (R113) -/
  | ldHD8 (n : Byte)
  /-- JR Z,e8 (R234) -/
  | jrZE8 (e : Byte)
  /-- LD L,d8 (R113) -/
  | ldLD8 (n : Byte)
  /-- JR NC,e8 (R234) -/
  | jrNcE8 (e : Byte)
  /-- LD SP,d16 (R141) -/
  | ldSpD16 (nn : Word)
  /-- LD (HL),d8 (R114) -/
  | ldIndHlD8 (n : Byte)
  /-- JR C,e8 (R234) -/
  | jrCE8 (e : Byte)
  /-- LD A,d8 (R113) -/
  | ldAD8 (n : Byte)
  /-- JP NZ,a16 (R231) -/
  | jpNzA16 (nn : Word)
  /-- JP a16 (R230) -/
  | jpA16 (nn : Word)
  /-- CALL NZ,a16 (R236) -/
  | callNzA16 (nn : Word)
  /-- ADD A,d8 (R162) -/
  | addAD8 (n : Byte)
  /-- JP Z,a16 (R231) -/
  | jpZA16 (nn : Word)
  /-- PREFIX CB (R254) -/
  | prefixCb (op2 : Byte)
  /-- CALL Z,a16 (R236) -/
  | callZA16 (nn : Word)
  /-- CALL a16 (R235) -/
  | callA16 (nn : Word)
  /-- ADC A,d8 (R163) -/
  | adcAD8 (n : Byte)
  /-- JP NC,a16 (R231) -/
  | jpNcA16 (nn : Word)
  /-- CALL NC,a16 (R236) -/
  | callNcA16 (nn : Word)
  /-- SUB d8 (R164) -/
  | subD8 (n : Byte)
  /-- JP C,a16 (R231) -/
  | jpCA16 (nn : Word)
  /-- CALL C,a16 (R236) -/
  | callCA16 (nn : Word)
  /-- SBC A,d8 (R165) -/
  | sbcAD8 (n : Byte)
  /-- LDH (a8),A (R120) -/
  | ldhIndA8A (n : Byte)
  /-- AND d8 (R166) -/
  | andD8 (n : Byte)
  /-- ADD SP,e8 (R194) -/
  | addSpE8 (e : Byte)
  /-- LD (a16),A (R118) -/
  | ldIndA16A (nn : Word)
  /-- XOR d8 (R167) -/
  | xorD8 (n : Byte)
  /-- LDH A,(a8) (R119) -/
  | ldhAIndA8 (n : Byte)
  /-- OR d8 (R168) -/
  | orD8 (n : Byte)
  /-- LD HL,SP+e8 (R195) -/
  | ldHlSpE8 (e : Byte)
  /-- LD A,(a16) (R117) -/
  | ldAIndA16 (nn : Word)
  /-- CP d8 (R169) -/
  | cpD8 (n : Byte)
  /-- NOP (R250) -/
  | nop
  /-- LD (BC),A (R116) -/
  | ldIndBcA
  /-- INC BC (R191) -/
  | incBc
  /-- INC B (R170) -/
  | incB
  /-- DEC B (R172) -/
  | decB
  /-- RLCA (R200) -/
  | rlca
  /-- ADD HL,BC (R190) -/
  | addHlBc
  /-- LD A,(BC) (R115) -/
  | ldAIndBc
  /-- DEC BC (R192) -/
  | decBc
  /-- INC C (R170) -/
  | incC
  /-- DEC C (R172) -/
  | decC
  /-- RRCA (R201) -/
  | rrca
  /-- LD (DE),A (R116) -/
  | ldIndDeA
  /-- INC DE (R191) -/
  | incDe
  /-- INC D (R170) -/
  | incD
  /-- DEC D (R172) -/
  | decD
  /-- RLA (R202) -/
  | rla
  /-- ADD HL,DE (R190) -/
  | addHlDe
  /-- LD A,(DE) (R115) -/
  | ldAIndDe
  /-- DEC DE (R192) -/
  | decDe
  /-- INC E (R170) -/
  | incE
  /-- DEC E (R172) -/
  | decE
  /-- RRA (R203) -/
  | rra
  /-- LD (HL+),A (R123) -/
  | ldIndHlIncA
  /-- INC HL (R191) -/
  | incHl
  /-- INC H (R170) -/
  | incH
  /-- DEC H (R172) -/
  | decH
  /-- DAA (R174) -/
  | daa
  /-- ADD HL,HL (R190) -/
  | addHlHl
  /-- LD A,(HL+) (R125) -/
  | ldAIndHlInc
  /-- DEC HL (R192) -/
  | decHl
  /-- INC L (R170) -/
  | incL
  /-- DEC L (R172) -/
  | decL
  /-- CPL (R175) -/
  | cpl
  /-- LD (HL-),A (R124) -/
  | ldIndHlDecA
  /-- INC SP (R191) -/
  | incSp
  /-- INC (HL) (R171) -/
  | incIndHl
  /-- DEC (HL) (R173) -/
  | decIndHl
  /-- SCF (R176) -/
  | scf
  /-- ADD HL,SP (R190) -/
  | addHlSp
  /-- LD A,(HL-) (R126) -/
  | ldAIndHlDec
  /-- DEC SP (R192) -/
  | decSp
  /-- INC A (R170) -/
  | incA
  /-- DEC A (R172) -/
  | decA
  /-- CCF (R177) -/
  | ccf
  /-- LD B,B (R110) -/
  | ldBB
  /-- LD B,C (R110) -/
  | ldBC
  /-- LD B,D (R110) -/
  | ldBD
  /-- LD B,E (R110) -/
  | ldBE
  /-- LD B,H (R110) -/
  | ldBH
  /-- LD B,L (R110) -/
  | ldBL
  /-- LD B,(HL) (R111) -/
  | ldBIndHl
  /-- LD B,A (R110) -/
  | ldBA
  /-- LD C,B (R110) -/
  | ldCB
  /-- LD C,C (R110) -/
  | ldCC
  /-- LD C,D (R110) -/
  | ldCD
  /-- LD C,E (R110) -/
  | ldCE
  /-- LD C,H (R110) -/
  | ldCH
  /-- LD C,L (R110) -/
  | ldCL
  /-- LD C,(HL) (R111) -/
  | ldCIndHl
  /-- LD C,A (R110) -/
  | ldCA
  /-- LD D,B (R110) -/
  | ldDB
  /-- LD D,C (R110) -/
  | ldDC
  /-- LD D,D (R110) -/
  | ldDD
  /-- LD D,E (R110) -/
  | ldDE
  /-- LD D,H (R110) -/
  | ldDH
  /-- LD D,L (R110) -/
  | ldDL
  /-- LD D,(HL) (R111) -/
  | ldDIndHl
  /-- LD D,A (R110) -/
  | ldDA
  /-- LD E,B (R110) -/
  | ldEB
  /-- LD E,C (R110) -/
  | ldEC
  /-- LD E,D (R110) -/
  | ldED
  /-- LD E,E (R110) -/
  | ldEE
  /-- LD E,H (R110) -/
  | ldEH
  /-- LD E,L (R110) -/
  | ldEL
  /-- LD E,(HL) (R111) -/
  | ldEIndHl
  /-- LD E,A (R110) -/
  | ldEA
  /-- LD H,B (R110) -/
  | ldHB
  /-- LD H,C (R110) -/
  | ldHC
  /-- LD H,D (R110) -/
  | ldHD
  /-- LD H,E (R110) -/
  | ldHE
  /-- LD H,H (R110) -/
  | ldHH
  /-- LD H,L (R110) -/
  | ldHL
  /-- LD H,(HL) (R111) -/
  | ldHIndHl
  /-- LD H,A (R110) -/
  | ldHA
  /-- LD L,B (R110) -/
  | ldLB
  /-- LD L,C (R110) -/
  | ldLC
  /-- LD L,D (R110) -/
  | ldLD
  /-- LD L,E (R110) -/
  | ldLE
  /-- LD L,H (R110) -/
  | ldLH
  /-- LD L,L (R110) -/
  | ldLL
  /-- LD L,(HL) (R111) -/
  | ldLIndHl
  /-- LD L,A (R110) -/
  | ldLA
  /-- LD (HL),B (R112) -/
  | ldIndHlB
  /-- LD (HL),C (R112) -/
  | ldIndHlC
  /-- LD (HL),D (R112) -/
  | ldIndHlD
  /-- LD (HL),E (R112) -/
  | ldIndHlE
  /-- LD (HL),H (R112) -/
  | ldIndHlH
  /-- LD (HL),L (R112) -/
  | ldIndHlL
  /-- HALT (R251) -/
  | halt
  /-- LD (HL),A (R112) -/
  | ldIndHlA
  /-- LD A,B (R110) -/
  | ldAB
  /-- LD A,C (R110) -/
  | ldAC
  /-- LD A,D (R110) -/
  | ldAD
  /-- LD A,E (R110) -/
  | ldAE
  /-- LD A,H (R110) -/
  | ldAH
  /-- LD A,L (R110) -/
  | ldAL
  /-- LD A,(HL) (R111) -/
  | ldAIndHl
  /-- LD A,A (R110) -/
  | ldAA
  /-- ADD A,B (R162) -/
  | addAB
  /-- ADD A,C (R162) -/
  | addAC
  /-- ADD A,D (R162) -/
  | addAD
  /-- ADD A,E (R162) -/
  | addAE
  /-- ADD A,H (R162) -/
  | addAH
  /-- ADD A,L (R162) -/
  | addAL
  /-- ADD A,(HL) (R162) -/
  | addAIndHl
  /-- ADD A,A (R162) -/
  | addAA
  /-- ADC A,B (R163) -/
  | adcAB
  /-- ADC A,C (R163) -/
  | adcAC
  /-- ADC A,D (R163) -/
  | adcAD
  /-- ADC A,E (R163) -/
  | adcAE
  /-- ADC A,H (R163) -/
  | adcAH
  /-- ADC A,L (R163) -/
  | adcAL
  /-- ADC A,(HL) (R163) -/
  | adcAIndHl
  /-- ADC A,A (R163) -/
  | adcAA
  /-- SUB B (R164) -/
  | subB
  /-- SUB C (R164) -/
  | subC
  /-- SUB D (R164) -/
  | subD
  /-- SUB E (R164) -/
  | subE
  /-- SUB H (R164) -/
  | subH
  /-- SUB L (R164) -/
  | subL
  /-- SUB (HL) (R164) -/
  | subIndHl
  /-- SUB A (R164) -/
  | subA
  /-- SBC A,B (R165) -/
  | sbcAB
  /-- SBC A,C (R165) -/
  | sbcAC
  /-- SBC A,D (R165) -/
  | sbcAD
  /-- SBC A,E (R165) -/
  | sbcAE
  /-- SBC A,H (R165) -/
  | sbcAH
  /-- SBC A,L (R165) -/
  | sbcAL
  /-- SBC A,(HL) (R165) -/
  | sbcAIndHl
  /-- SBC A,A (R165) -/
  | sbcAA
  /-- AND B (R166) -/
  | andB
  /-- AND C (R166) -/
  | andC
  /-- AND D (R166) -/
  | andD
  /-- AND E (R166) -/
  | andE
  /-- AND H (R166) -/
  | andH
  /-- AND L (R166) -/
  | andL
  /-- AND (HL) (R166) -/
  | andIndHl
  /-- AND A (R166) -/
  | andA
  /-- XOR B (R167) -/
  | xorB
  /-- XOR C (R167) -/
  | xorC
  /-- XOR D (R167) -/
  | xorD
  /-- XOR E (R167) -/
  | xorE
  /-- XOR H (R167) -/
  | xorH
  /-- XOR L (R167) -/
  | xorL
  /-- XOR (HL) (R167) -/
  | xorIndHl
  /-- XOR A (R167) -/
  | xorA
  /-- OR B (R168) -/
  | orB
  /-- OR C (R168) -/
  | orC
  /-- OR D (R168) -/
  | orD
  /-- OR E (R168) -/
  | orE
  /-- OR H (R168) -/
  | orH
  /-- OR L (R168) -/
  | orL
  /-- OR (HL) (R168) -/
  | orIndHl
  /-- OR A (R168) -/
  | orA
  /-- CP B (R169) -/
  | cpB
  /-- CP C (R169) -/
  | cpC
  /-- CP D (R169) -/
  | cpD
  /-- CP E (R169) -/
  | cpE
  /-- CP H (R169) -/
  | cpH
  /-- CP L (R169) -/
  | cpL
  /-- CP (HL) (R169) -/
  | cpIndHl
  /-- CP A (R169) -/
  | cpA
  /-- RET NZ (R238) -/
  | retNz
  /-- POP BC (R145) -/
  | popBc
  /-- PUSH BC (R144) -/
  | pushBc
  /-- RST 00h (R239) -/
  | rst00
  /-- RET Z (R238) -/
  | retZ
  /-- RET (R237) -/
  | ret
  /-- RST 08h (R239) -/
  | rst08
  /-- RET NC (R238) -/
  | retNc
  /-- POP DE (R145) -/
  | popDe
  /-- Undefined opcode 0xD3 (R257) -/
  | undefinedD3
  /-- PUSH DE (R144) -/
  | pushDe
  /-- RST 10h (R239) -/
  | rst10
  /-- RET C (R238) -/
  | retC
  /-- RETI (R242) -/
  | reti
  /-- Undefined opcode 0xDB (R257) -/
  | undefinedDB
  /-- Undefined opcode 0xDD (R257) -/
  | undefinedDD
  /-- RST 18h (R239) -/
  | rst18
  /-- POP HL (R145) -/
  | popHl
  /-- LD (C),A (R122) -/
  | ldIndCA
  /-- Undefined opcode 0xE3 (R257) -/
  | undefinedE3
  /-- Undefined opcode 0xE4 (R257) -/
  | undefinedE4
  /-- PUSH HL (R144) -/
  | pushHl
  /-- RST 20h (R239) -/
  | rst20
  /-- JP HL (R232) -/
  | jpHl
  /-- Undefined opcode 0xEB (R257) -/
  | undefinedEB
  /-- Undefined opcode 0xEC (R257) -/
  | undefinedEC
  /-- Undefined opcode 0xED (R257) -/
  | undefinedED
  /-- RST 28h (R239) -/
  | rst28
  /-- POP AF (R146) -/
  | popAf
  /-- LD A,(C) (R121) -/
  | ldAIndC
  /-- DI (R255) -/
  | di
  /-- Undefined opcode 0xF4 (R257) -/
  | undefinedF4
  /-- PUSH AF (R144) -/
  | pushAf
  /-- RST 30h (R239) -/
  | rst30
  /-- LD SP,HL (R143) -/
  | ldSpHl
  /-- EI (R256) -/
  | ei
  /-- Undefined opcode 0xFC (R257) -/
  | undefinedFC
  /-- Undefined opcode 0xFD (R257) -/
  | undefinedFD
  /-- RST 38h (R239) -/
  | rst38
  /-- RLC B (R205) -/
  | rlcB
  /-- RLC C (R205) -/
  | rlcC
  /-- RLC D (R205) -/
  | rlcD
  /-- RLC E (R205) -/
  | rlcE
  /-- RLC H (R205) -/
  | rlcH
  /-- RLC L (R205) -/
  | rlcL
  /-- RLC (HL) (R205) -/
  | rlcIndHl
  /-- RLC A (R205) -/
  | rlcA
  /-- RRC B (R206) -/
  | rrcB
  /-- RRC C (R206) -/
  | rrcC
  /-- RRC D (R206) -/
  | rrcD
  /-- RRC E (R206) -/
  | rrcE
  /-- RRC H (R206) -/
  | rrcH
  /-- RRC L (R206) -/
  | rrcL
  /-- RRC (HL) (R206) -/
  | rrcIndHl
  /-- RRC A (R206) -/
  | rrcA
  /-- RL B (R207) -/
  | rlB
  /-- RL C (R207) -/
  | rlC
  /-- RL D (R207) -/
  | rlD
  /-- RL E (R207) -/
  | rlE
  /-- RL H (R207) -/
  | rlH
  /-- RL L (R207) -/
  | rlL
  /-- RL (HL) (R207) -/
  | rlIndHl
  /-- RL A (R207) -/
  | rlA
  /-- RR B (R208) -/
  | rrB
  /-- RR C (R208) -/
  | rrC
  /-- RR D (R208) -/
  | rrD
  /-- RR E (R208) -/
  | rrE
  /-- RR H (R208) -/
  | rrH
  /-- RR L (R208) -/
  | rrL
  /-- RR (HL) (R208) -/
  | rrIndHl
  /-- RR A (R208) -/
  | rrA
  /-- SLA B (R209) -/
  | slaB
  /-- SLA C (R209) -/
  | slaC
  /-- SLA D (R209) -/
  | slaD
  /-- SLA E (R209) -/
  | slaE
  /-- SLA H (R209) -/
  | slaH
  /-- SLA L (R209) -/
  | slaL
  /-- SLA (HL) (R209) -/
  | slaIndHl
  /-- SLA A (R209) -/
  | slaA
  /-- SRA B (R210) -/
  | sraB
  /-- SRA C (R210) -/
  | sraC
  /-- SRA D (R210) -/
  | sraD
  /-- SRA E (R210) -/
  | sraE
  /-- SRA H (R210) -/
  | sraH
  /-- SRA L (R210) -/
  | sraL
  /-- SRA (HL) (R210) -/
  | sraIndHl
  /-- SRA A (R210) -/
  | sraA
  /-- SWAP B (R211) -/
  | swapB
  /-- SWAP C (R211) -/
  | swapC
  /-- SWAP D (R211) -/
  | swapD
  /-- SWAP E (R211) -/
  | swapE
  /-- SWAP H (R211) -/
  | swapH
  /-- SWAP L (R211) -/
  | swapL
  /-- SWAP (HL) (R211) -/
  | swapIndHl
  /-- SWAP A (R211) -/
  | swapA
  /-- SRL B (R212) -/
  | srlB
  /-- SRL C (R212) -/
  | srlC
  /-- SRL D (R212) -/
  | srlD
  /-- SRL E (R212) -/
  | srlE
  /-- SRL H (R212) -/
  | srlH
  /-- SRL L (R212) -/
  | srlL
  /-- SRL (HL) (R212) -/
  | srlIndHl
  /-- SRL A (R212) -/
  | srlA
  /-- BIT 0,B (R213) -/
  | bit0B
  /-- BIT 0,C (R213) -/
  | bit0C
  /-- BIT 0,D (R213) -/
  | bit0D
  /-- BIT 0,E (R213) -/
  | bit0E
  /-- BIT 0,H (R213) -/
  | bit0H
  /-- BIT 0,L (R213) -/
  | bit0L
  /-- BIT 0,(HL) (R213) -/
  | bit0IndHl
  /-- BIT 0,A (R213) -/
  | bit0A
  /-- BIT 1,B (R213) -/
  | bit1B
  /-- BIT 1,C (R213) -/
  | bit1C
  /-- BIT 1,D (R213) -/
  | bit1D
  /-- BIT 1,E (R213) -/
  | bit1E
  /-- BIT 1,H (R213) -/
  | bit1H
  /-- BIT 1,L (R213) -/
  | bit1L
  /-- BIT 1,(HL) (R213) -/
  | bit1IndHl
  /-- BIT 1,A (R213) -/
  | bit1A
  /-- BIT 2,B (R213) -/
  | bit2B
  /-- BIT 2,C (R213) -/
  | bit2C
  /-- BIT 2,D (R213) -/
  | bit2D
  /-- BIT 2,E (R213) -/
  | bit2E
  /-- BIT 2,H (R213) -/
  | bit2H
  /-- BIT 2,L (R213) -/
  | bit2L
  /-- BIT 2,(HL) (R213) -/
  | bit2IndHl
  /-- BIT 2,A (R213) -/
  | bit2A
  /-- BIT 3,B (R213) -/
  | bit3B
  /-- BIT 3,C (R213) -/
  | bit3C
  /-- BIT 3,D (R213) -/
  | bit3D
  /-- BIT 3,E (R213) -/
  | bit3E
  /-- BIT 3,H (R213) -/
  | bit3H
  /-- BIT 3,L (R213) -/
  | bit3L
  /-- BIT 3,(HL) (R213) -/
  | bit3IndHl
  /-- BIT 3,A (R213) -/
  | bit3A
  /-- BIT 4,B (R213) -/
  | bit4B
  /-- BIT 4,C (R213) -/
  | bit4C
  /-- BIT 4,D (R213) -/
  | bit4D
  /-- BIT 4,E (R213) -/
  | bit4E
  /-- BIT 4,H (R213) -/
  | bit4H
  /-- BIT 4,L (R213) -/
  | bit4L
  /-- BIT 4,(HL) (R213) -/
  | bit4IndHl
  /-- BIT 4,A (R213) -/
  | bit4A
  /-- BIT 5,B (R213) -/
  | bit5B
  /-- BIT 5,C (R213) -/
  | bit5C
  /-- BIT 5,D (R213) -/
  | bit5D
  /-- BIT 5,E (R213) -/
  | bit5E
  /-- BIT 5,H (R213) -/
  | bit5H
  /-- BIT 5,L (R213) -/
  | bit5L
  /-- BIT 5,(HL) (R213) -/
  | bit5IndHl
  /-- BIT 5,A (R213) -/
  | bit5A
  /-- BIT 6,B (R213) -/
  | bit6B
  /-- BIT 6,C (R213) -/
  | bit6C
  /-- BIT 6,D (R213) -/
  | bit6D
  /-- BIT 6,E (R213) -/
  | bit6E
  /-- BIT 6,H (R213) -/
  | bit6H
  /-- BIT 6,L (R213) -/
  | bit6L
  /-- BIT 6,(HL) (R213) -/
  | bit6IndHl
  /-- BIT 6,A (R213) -/
  | bit6A
  /-- BIT 7,B (R213) -/
  | bit7B
  /-- BIT 7,C (R213) -/
  | bit7C
  /-- BIT 7,D (R213) -/
  | bit7D
  /-- BIT 7,E (R213) -/
  | bit7E
  /-- BIT 7,H (R213) -/
  | bit7H
  /-- BIT 7,L (R213) -/
  | bit7L
  /-- BIT 7,(HL) (R213) -/
  | bit7IndHl
  /-- BIT 7,A (R213) -/
  | bit7A
  /-- RES 0,B (R214) -/
  | res0B
  /-- RES 0,C (R214) -/
  | res0C
  /-- RES 0,D (R214) -/
  | res0D
  /-- RES 0,E (R214) -/
  | res0E
  /-- RES 0,H (R214) -/
  | res0H
  /-- RES 0,L (R214) -/
  | res0L
  /-- RES 0,(HL) (R214) -/
  | res0IndHl
  /-- RES 0,A (R214) -/
  | res0A
  /-- RES 1,B (R214) -/
  | res1B
  /-- RES 1,C (R214) -/
  | res1C
  /-- RES 1,D (R214) -/
  | res1D
  /-- RES 1,E (R214) -/
  | res1E
  /-- RES 1,H (R214) -/
  | res1H
  /-- RES 1,L (R214) -/
  | res1L
  /-- RES 1,(HL) (R214) -/
  | res1IndHl
  /-- RES 1,A (R214) -/
  | res1A
  /-- RES 2,B (R214) -/
  | res2B
  /-- RES 2,C (R214) -/
  | res2C
  /-- RES 2,D (R214) -/
  | res2D
  /-- RES 2,E (R214) -/
  | res2E
  /-- RES 2,H (R214) -/
  | res2H
  /-- RES 2,L (R214) -/
  | res2L
  /-- RES 2,(HL) (R214) -/
  | res2IndHl
  /-- RES 2,A (R214) -/
  | res2A
  /-- RES 3,B (R214) -/
  | res3B
  /-- RES 3,C (R214) -/
  | res3C
  /-- RES 3,D (R214) -/
  | res3D
  /-- RES 3,E (R214) -/
  | res3E
  /-- RES 3,H (R214) -/
  | res3H
  /-- RES 3,L (R214) -/
  | res3L
  /-- RES 3,(HL) (R214) -/
  | res3IndHl
  /-- RES 3,A (R214) -/
  | res3A
  /-- RES 4,B (R214) -/
  | res4B
  /-- RES 4,C (R214) -/
  | res4C
  /-- RES 4,D (R214) -/
  | res4D
  /-- RES 4,E (R214) -/
  | res4E
  /-- RES 4,H (R214) -/
  | res4H
  /-- RES 4,L (R214) -/
  | res4L
  /-- RES 4,(HL) (R214) -/
  | res4IndHl
  /-- RES 4,A (R214) -/
  | res4A
  /-- RES 5,B (R214) -/
  | res5B
  /-- RES 5,C (R214) -/
  | res5C
  /-- RES 5,D (R214) -/
  | res5D
  /-- RES 5,E (R214) -/
  | res5E
  /-- RES 5,H (R214) -/
  | res5H
  /-- RES 5,L (R214) -/
  | res5L
  /-- RES 5,(HL) (R214) -/
  | res5IndHl
  /-- RES 5,A (R214) -/
  | res5A
  /-- RES 6,B (R214) -/
  | res6B
  /-- RES 6,C (R214) -/
  | res6C
  /-- RES 6,D (R214) -/
  | res6D
  /-- RES 6,E (R214) -/
  | res6E
  /-- RES 6,H (R214) -/
  | res6H
  /-- RES 6,L (R214) -/
  | res6L
  /-- RES 6,(HL) (R214) -/
  | res6IndHl
  /-- RES 6,A (R214) -/
  | res6A
  /-- RES 7,B (R214) -/
  | res7B
  /-- RES 7,C (R214) -/
  | res7C
  /-- RES 7,D (R214) -/
  | res7D
  /-- RES 7,E (R214) -/
  | res7E
  /-- RES 7,H (R214) -/
  | res7H
  /-- RES 7,L (R214) -/
  | res7L
  /-- RES 7,(HL) (R214) -/
  | res7IndHl
  /-- RES 7,A (R214) -/
  | res7A
  /-- SET 0,B (R215) -/
  | set0B
  /-- SET 0,C (R215) -/
  | set0C
  /-- SET 0,D (R215) -/
  | set0D
  /-- SET 0,E (R215) -/
  | set0E
  /-- SET 0,H (R215) -/
  | set0H
  /-- SET 0,L (R215) -/
  | set0L
  /-- SET 0,(HL) (R215) -/
  | set0IndHl
  /-- SET 0,A (R215) -/
  | set0A
  /-- SET 1,B (R215) -/
  | set1B
  /-- SET 1,C (R215) -/
  | set1C
  /-- SET 1,D (R215) -/
  | set1D
  /-- SET 1,E (R215) -/
  | set1E
  /-- SET 1,H (R215) -/
  | set1H
  /-- SET 1,L (R215) -/
  | set1L
  /-- SET 1,(HL) (R215) -/
  | set1IndHl
  /-- SET 1,A (R215) -/
  | set1A
  /-- SET 2,B (R215) -/
  | set2B
  /-- SET 2,C (R215) -/
  | set2C
  /-- SET 2,D (R215) -/
  | set2D
  /-- SET 2,E (R215) -/
  | set2E
  /-- SET 2,H (R215) -/
  | set2H
  /-- SET 2,L (R215) -/
  | set2L
  /-- SET 2,(HL) (R215) -/
  | set2IndHl
  /-- SET 2,A (R215) -/
  | set2A
  /-- SET 3,B (R215) -/
  | set3B
  /-- SET 3,C (R215) -/
  | set3C
  /-- SET 3,D (R215) -/
  | set3D
  /-- SET 3,E (R215) -/
  | set3E
  /-- SET 3,H (R215) -/
  | set3H
  /-- SET 3,L (R215) -/
  | set3L
  /-- SET 3,(HL) (R215) -/
  | set3IndHl
  /-- SET 3,A (R215) -/
  | set3A
  /-- SET 4,B (R215) -/
  | set4B
  /-- SET 4,C (R215) -/
  | set4C
  /-- SET 4,D (R215) -/
  | set4D
  /-- SET 4,E (R215) -/
  | set4E
  /-- SET 4,H (R215) -/
  | set4H
  /-- SET 4,L (R215) -/
  | set4L
  /-- SET 4,(HL) (R215) -/
  | set4IndHl
  /-- SET 4,A (R215) -/
  | set4A
  /-- SET 5,B (R215) -/
  | set5B
  /-- SET 5,C (R215) -/
  | set5C
  /-- SET 5,D (R215) -/
  | set5D
  /-- SET 5,E (R215) -/
  | set5E
  /-- SET 5,H (R215) -/
  | set5H
  /-- SET 5,L (R215) -/
  | set5L
  /-- SET 5,(HL) (R215) -/
  | set5IndHl
  /-- SET 5,A (R215) -/
  | set5A
  /-- SET 6,B (R215) -/
  | set6B
  /-- SET 6,C (R215) -/
  | set6C
  /-- SET 6,D (R215) -/
  | set6D
  /-- SET 6,E (R215) -/
  | set6E
  /-- SET 6,H (R215) -/
  | set6H
  /-- SET 6,L (R215) -/
  | set6L
  /-- SET 6,(HL) (R215) -/
  | set6IndHl
  /-- SET 6,A (R215) -/
  | set6A
  /-- SET 7,B (R215) -/
  | set7B
  /-- SET 7,C (R215) -/
  | set7C
  /-- SET 7,D (R215) -/
  | set7D
  /-- SET 7,E (R215) -/
  | set7E
  /-- SET 7,H (R215) -/
  | set7H
  /-- SET 7,L (R215) -/
  | set7L
  /-- SET 7,(HL) (R215) -/
  | set7IndHl
  /-- SET 7,A (R215) -/
  | set7A
deriving DecidableEq, Repr

end Sys2Proof
end

