-- ==== Sys2Proof/WellFormed.lean ====
section
/-! DEFINITION. Which terms of `Instr` are what a decoder can read.

Every operand of every constructor is a bit vector of the width the encoding gives it, so no operand can be out of range.
The one check left is on the prefix row of the table: `0xCB op2` is not an instruction beside the prefixed instruction
that `op2` names, it is that instruction (46_system.md R254), so the row's own constructor is no decoded form. -/

namespace Sys2Proof

/-- Refuses the prefix row's constructor: its two bytes are those of an instruction of the prefixed table (R254, R100). -/
def Instr.wellFormed : Instr → Bool
  | .prefixCb _ => false
  | _ => true

end Sys2Proof
end

