-- ==== Sys2Proof/Decode.lean ====
section
/-! DEFINITION. Decoding and encoding (30_encoding.md). The decoder follows the fields of R98 and R99; the encoder follows
the opcode bytes of spec/opcode_table.json. The `of…` functions say which instruction a block of the map holds at each
value of its operand fields. -/

namespace Sys2Proof

/-- The block `01 ddd sss`: LD between `r8` operands, HALT in the place of LD (HL),(HL) (R110 to R112, R251). -/
def Instr.ofLd (x : R8) (y : R8) : Instr :=
  match x, y with
  | .reg .b, .reg .b => .ldBB
  | .reg .b, .reg .c => .ldBC
  | .reg .b, .reg .d => .ldBD
  | .reg .b, .reg .e => .ldBE
  | .reg .b, .reg .h => .ldBH
  | .reg .b, .reg .l => .ldBL
  | .reg .b, .indHl => .ldBIndHl
  | .reg .b, .reg .a => .ldBA
  | .reg .c, .reg .b => .ldCB
  | .reg .c, .reg .c => .ldCC
  | .reg .c, .reg .d => .ldCD
  | .reg .c, .reg .e => .ldCE
  | .reg .c, .reg .h => .ldCH
  | .reg .c, .reg .l => .ldCL
  | .reg .c, .indHl => .ldCIndHl
  | .reg .c, .reg .a => .ldCA
  | .reg .d, .reg .b => .ldDB
  | .reg .d, .reg .c => .ldDC
  | .reg .d, .reg .d => .ldDD
  | .reg .d, .reg .e => .ldDE
  | .reg .d, .reg .h => .ldDH
  | .reg .d, .reg .l => .ldDL
  | .reg .d, .indHl => .ldDIndHl
  | .reg .d, .reg .a => .ldDA
  | .reg .e, .reg .b => .ldEB
  | .reg .e, .reg .c => .ldEC
  | .reg .e, .reg .d => .ldED
  | .reg .e, .reg .e => .ldEE
  | .reg .e, .reg .h => .ldEH
  | .reg .e, .reg .l => .ldEL
  | .reg .e, .indHl => .ldEIndHl
  | .reg .e, .reg .a => .ldEA
  | .reg .h, .reg .b => .ldHB
  | .reg .h, .reg .c => .ldHC
  | .reg .h, .reg .d => .ldHD
  | .reg .h, .reg .e => .ldHE
  | .reg .h, .reg .h => .ldHH
  | .reg .h, .reg .l => .ldHL
  | .reg .h, .indHl => .ldHIndHl
  | .reg .h, .reg .a => .ldHA
  | .reg .l, .reg .b => .ldLB
  | .reg .l, .reg .c => .ldLC
  | .reg .l, .reg .d => .ldLD
  | .reg .l, .reg .e => .ldLE
  | .reg .l, .reg .h => .ldLH
  | .reg .l, .reg .l => .ldLL
  | .reg .l, .indHl => .ldLIndHl
  | .reg .l, .reg .a => .ldLA
  | .indHl, .reg .b => .ldIndHlB
  | .indHl, .reg .c => .ldIndHlC
  | .indHl, .reg .d => .ldIndHlD
  | .indHl, .reg .e => .ldIndHlE
  | .indHl, .reg .h => .ldIndHlH
  | .indHl, .reg .l => .ldIndHlL
  | .indHl, .indHl => .halt
  | .indHl, .reg .a => .ldIndHlA
  | .reg .a, .reg .b => .ldAB
  | .reg .a, .reg .c => .ldAC
  | .reg .a, .reg .d => .ldAD
  | .reg .a, .reg .e => .ldAE
  | .reg .a, .reg .h => .ldAH
  | .reg .a, .reg .l => .ldAL
  | .reg .a, .indHl => .ldAIndHl
  | .reg .a, .reg .a => .ldAA

/-- `00 ddd 110`: LD r8,d8 (R113, R114). -/
def Instr.ofLdImm (x : R8) (n : Byte) : Instr :=
  match x with
  | .reg .b => .ldBD8 n
  | .reg .c => .ldCD8 n
  | .reg .d => .ldDD8 n
  | .reg .e => .ldED8 n
  | .reg .h => .ldHD8 n
  | .reg .l => .ldLD8 n
  | .indHl => .ldIndHlD8 n
  | .reg .a => .ldAD8 n

/-- `00 ddd 100`: INC r8 (R170, R171). -/
def Instr.ofInc (x : R8) : Instr :=
  match x with
  | .reg .b => .incB
  | .reg .c => .incC
  | .reg .d => .incD
  | .reg .e => .incE
  | .reg .h => .incH
  | .reg .l => .incL
  | .indHl => .incIndHl
  | .reg .a => .incA

/-- `00 ddd 101`: DEC r8 (R172, R173). -/
def Instr.ofDec (x : R8) : Instr :=
  match x with
  | .reg .b => .decB
  | .reg .c => .decC
  | .reg .d => .decD
  | .reg .e => .decE
  | .reg .h => .decH
  | .reg .l => .decL
  | .indHl => .decIndHl
  | .reg .a => .decA

/-- `10 yyy zzz`: the accumulator operations on an `r8` operand (R161). -/
def Instr.ofAlu (x : AluOp) (y : R8) : Instr :=
  match x, y with
  | .add, .reg .b => .addAB
  | .add, .reg .c => .addAC
  | .add, .reg .d => .addAD
  | .add, .reg .e => .addAE
  | .add, .reg .h => .addAH
  | .add, .reg .l => .addAL
  | .add, .indHl => .addAIndHl
  | .add, .reg .a => .addAA
  | .adc, .reg .b => .adcAB
  | .adc, .reg .c => .adcAC
  | .adc, .reg .d => .adcAD
  | .adc, .reg .e => .adcAE
  | .adc, .reg .h => .adcAH
  | .adc, .reg .l => .adcAL
  | .adc, .indHl => .adcAIndHl
  | .adc, .reg .a => .adcAA
  | .sub, .reg .b => .subB
  | .sub, .reg .c => .subC
  | .sub, .reg .d => .subD
  | .sub, .reg .e => .subE
  | .sub, .reg .h => .subH
  | .sub, .reg .l => .subL
  | .sub, .indHl => .subIndHl
  | .sub, .reg .a => .subA
  | .sbc, .reg .b => .sbcAB
  | .sbc, .reg .c => .sbcAC
  | .sbc, .reg .d => .sbcAD
  | .sbc, .reg .e => .sbcAE
  | .sbc, .reg .h => .sbcAH
  | .sbc, .reg .l => .sbcAL
  | .sbc, .indHl => .sbcAIndHl
  | .sbc, .reg .a => .sbcAA
  | .and, .reg .b => .andB
  | .and, .reg .c => .andC
  | .and, .reg .d => .andD
  | .and, .reg .e => .andE
  | .and, .reg .h => .andH
  | .and, .reg .l => .andL
  | .and, .indHl => .andIndHl
  | .and, .reg .a => .andA
  | .xor, .reg .b => .xorB
  | .xor, .reg .c => .xorC
  | .xor, .reg .d => .xorD
  | .xor, .reg .e => .xorE
  | .xor, .reg .h => .xorH
  | .xor, .reg .l => .xorL
  | .xor, .indHl => .xorIndHl
  | .xor, .reg .a => .xorA
  | .or, .reg .b => .orB
  | .or, .reg .c => .orC
  | .or, .reg .d => .orD
  | .or, .reg .e => .orE
  | .or, .reg .h => .orH
  | .or, .reg .l => .orL
  | .or, .indHl => .orIndHl
  | .or, .reg .a => .orA
  | .cp, .reg .b => .cpB
  | .cp, .reg .c => .cpC
  | .cp, .reg .d => .cpD
  | .cp, .reg .e => .cpE
  | .cp, .reg .h => .cpH
  | .cp, .reg .l => .cpL
  | .cp, .indHl => .cpIndHl
  | .cp, .reg .a => .cpA

/-- `11 yyy 110`: the accumulator operations on d8 (R161). -/
def Instr.ofAluImm (x : AluOp) (n : Byte) : Instr :=
  match x with
  | .add => .addAD8 n
  | .adc => .adcAD8 n
  | .sub => .subD8 n
  | .sbc => .sbcAD8 n
  | .and => .andD8 n
  | .xor => .xorD8 n
  | .or => .orD8 n
  | .cp => .cpD8 n

/-- `00 pp0 001`: LD r16,d16 (R141). -/
def Instr.ofLd16 (x : Reg16) (nn : Word) : Instr :=
  match x with
  | .bc => .ldBcD16 nn
  | .de => .ldDeD16 nn
  | .hl => .ldHlD16 nn
  | .sp => .ldSpD16 nn

/-- `00 pp1 001`: ADD HL,r16 (R190). -/
def Instr.ofAddHl (x : Reg16) : Instr :=
  match x with
  | .bc => .addHlBc
  | .de => .addHlDe
  | .hl => .addHlHl
  | .sp => .addHlSp

/-- `00 pp0 011`: INC r16 (R191). -/
def Instr.ofInc16 (x : Reg16) : Instr :=
  match x with
  | .bc => .incBc
  | .de => .incDe
  | .hl => .incHl
  | .sp => .incSp

/-- `00 pp1 011`: DEC r16 (R192). -/
def Instr.ofDec16 (x : Reg16) : Instr :=
  match x with
  | .bc => .decBc
  | .de => .decDe
  | .hl => .decHl
  | .sp => .decSp

/-- `11 pp0 101`: PUSH r16stk (R144). -/
def Instr.ofPush (x : RegStk) : Instr :=
  match x with
  | .bc => .pushBc
  | .de => .pushDe
  | .hl => .pushHl
  | .af => .pushAf

/-- `11 pp0 001`: POP r16stk (R145, R146). -/
def Instr.ofPop (x : RegStk) : Instr :=
  match x with
  | .bc => .popBc
  | .de => .popDe
  | .hl => .popHl
  | .af => .popAf

/-- `001 cc 000`: JR cc,e8 (R234). -/
def Instr.ofJr (x : Cond) (e : Byte) : Instr :=
  match x with
  | .nz => .jrNzE8 e
  | .z => .jrZE8 e
  | .nc => .jrNcE8 e
  | .c => .jrCE8 e

/-- `110 cc 010`: JP cc,a16 (R231). -/
def Instr.ofJp (x : Cond) (nn : Word) : Instr :=
  match x with
  | .nz => .jpNzA16 nn
  | .z => .jpZA16 nn
  | .nc => .jpNcA16 nn
  | .c => .jpCA16 nn

/-- `110 cc 100`: CALL cc,a16 (R236). -/
def Instr.ofCall (x : Cond) (nn : Word) : Instr :=
  match x with
  | .nz => .callNzA16 nn
  | .z => .callZA16 nn
  | .nc => .callNcA16 nn
  | .c => .callCA16 nn

/-- `110 cc 000`: RET cc (R238). -/
def Instr.ofRet (x : Cond) : Instr :=
  match x with
  | .nz => .retNz
  | .z => .retZ
  | .nc => .retNc
  | .c => .retC

/-- `11 yyy 111`: RST (R239). -/
def Instr.ofRst (x : Oct) : Instr :=
  match x with
  | .i0 => .rst00
  | .i1 => .rst08
  | .i2 => .rst10
  | .i3 => .rst18
  | .i4 => .rst20
  | .i5 => .rst28
  | .i6 => .rst30
  | .i7 => .rst38

/-- `00 ggg zzz` of the prefixed space (R205 to R212). -/
def Instr.ofShift (x : ShiftOp) (y : R8) : Instr :=
  match x, y with
  | .rlc, .reg .b => .rlcB
  | .rlc, .reg .c => .rlcC
  | .rlc, .reg .d => .rlcD
  | .rlc, .reg .e => .rlcE
  | .rlc, .reg .h => .rlcH
  | .rlc, .reg .l => .rlcL
  | .rlc, .indHl => .rlcIndHl
  | .rlc, .reg .a => .rlcA
  | .rrc, .reg .b => .rrcB
  | .rrc, .reg .c => .rrcC
  | .rrc, .reg .d => .rrcD
  | .rrc, .reg .e => .rrcE
  | .rrc, .reg .h => .rrcH
  | .rrc, .reg .l => .rrcL
  | .rrc, .indHl => .rrcIndHl
  | .rrc, .reg .a => .rrcA
  | .rl, .reg .b => .rlB
  | .rl, .reg .c => .rlC
  | .rl, .reg .d => .rlD
  | .rl, .reg .e => .rlE
  | .rl, .reg .h => .rlH
  | .rl, .reg .l => .rlL
  | .rl, .indHl => .rlIndHl
  | .rl, .reg .a => .rlA
  | .rr, .reg .b => .rrB
  | .rr, .reg .c => .rrC
  | .rr, .reg .d => .rrD
  | .rr, .reg .e => .rrE
  | .rr, .reg .h => .rrH
  | .rr, .reg .l => .rrL
  | .rr, .indHl => .rrIndHl
  | .rr, .reg .a => .rrA
  | .sla, .reg .b => .slaB
  | .sla, .reg .c => .slaC
  | .sla, .reg .d => .slaD
  | .sla, .reg .e => .slaE
  | .sla, .reg .h => .slaH
  | .sla, .reg .l => .slaL
  | .sla, .indHl => .slaIndHl
  | .sla, .reg .a => .slaA
  | .sra, .reg .b => .sraB
  | .sra, .reg .c => .sraC
  | .sra, .reg .d => .sraD
  | .sra, .reg .e => .sraE
  | .sra, .reg .h => .sraH
  | .sra, .reg .l => .sraL
  | .sra, .indHl => .sraIndHl
  | .sra, .reg .a => .sraA
  | .swap, .reg .b => .swapB
  | .swap, .reg .c => .swapC
  | .swap, .reg .d => .swapD
  | .swap, .reg .e => .swapE
  | .swap, .reg .h => .swapH
  | .swap, .reg .l => .swapL
  | .swap, .indHl => .swapIndHl
  | .swap, .reg .a => .swapA
  | .srl, .reg .b => .srlB
  | .srl, .reg .c => .srlC
  | .srl, .reg .d => .srlD
  | .srl, .reg .e => .srlE
  | .srl, .reg .h => .srlH
  | .srl, .reg .l => .srlL
  | .srl, .indHl => .srlIndHl
  | .srl, .reg .a => .srlA

/-- `01 nnn zzz` of the prefixed space: BIT (R213). -/
def Instr.ofBit (x : Oct) (y : R8) : Instr :=
  match x, y with
  | .i0, .reg .b => .bit0B
  | .i0, .reg .c => .bit0C
  | .i0, .reg .d => .bit0D
  | .i0, .reg .e => .bit0E
  | .i0, .reg .h => .bit0H
  | .i0, .reg .l => .bit0L
  | .i0, .indHl => .bit0IndHl
  | .i0, .reg .a => .bit0A
  | .i1, .reg .b => .bit1B
  | .i1, .reg .c => .bit1C
  | .i1, .reg .d => .bit1D
  | .i1, .reg .e => .bit1E
  | .i1, .reg .h => .bit1H
  | .i1, .reg .l => .bit1L
  | .i1, .indHl => .bit1IndHl
  | .i1, .reg .a => .bit1A
  | .i2, .reg .b => .bit2B
  | .i2, .reg .c => .bit2C
  | .i2, .reg .d => .bit2D
  | .i2, .reg .e => .bit2E
  | .i2, .reg .h => .bit2H
  | .i2, .reg .l => .bit2L
  | .i2, .indHl => .bit2IndHl
  | .i2, .reg .a => .bit2A
  | .i3, .reg .b => .bit3B
  | .i3, .reg .c => .bit3C
  | .i3, .reg .d => .bit3D
  | .i3, .reg .e => .bit3E
  | .i3, .reg .h => .bit3H
  | .i3, .reg .l => .bit3L
  | .i3, .indHl => .bit3IndHl
  | .i3, .reg .a => .bit3A
  | .i4, .reg .b => .bit4B
  | .i4, .reg .c => .bit4C
  | .i4, .reg .d => .bit4D
  | .i4, .reg .e => .bit4E
  | .i4, .reg .h => .bit4H
  | .i4, .reg .l => .bit4L
  | .i4, .indHl => .bit4IndHl
  | .i4, .reg .a => .bit4A
  | .i5, .reg .b => .bit5B
  | .i5, .reg .c => .bit5C
  | .i5, .reg .d => .bit5D
  | .i5, .reg .e => .bit5E
  | .i5, .reg .h => .bit5H
  | .i5, .reg .l => .bit5L
  | .i5, .indHl => .bit5IndHl
  | .i5, .reg .a => .bit5A
  | .i6, .reg .b => .bit6B
  | .i6, .reg .c => .bit6C
  | .i6, .reg .d => .bit6D
  | .i6, .reg .e => .bit6E
  | .i6, .reg .h => .bit6H
  | .i6, .reg .l => .bit6L
  | .i6, .indHl => .bit6IndHl
  | .i6, .reg .a => .bit6A
  | .i7, .reg .b => .bit7B
  | .i7, .reg .c => .bit7C
  | .i7, .reg .d => .bit7D
  | .i7, .reg .e => .bit7E
  | .i7, .reg .h => .bit7H
  | .i7, .reg .l => .bit7L
  | .i7, .indHl => .bit7IndHl
  | .i7, .reg .a => .bit7A

/-- `10 nnn zzz` of the prefixed space: RES (R214). -/
def Instr.ofRes (x : Oct) (y : R8) : Instr :=
  match x, y with
  | .i0, .reg .b => .res0B
  | .i0, .reg .c => .res0C
  | .i0, .reg .d => .res0D
  | .i0, .reg .e => .res0E
  | .i0, .reg .h => .res0H
  | .i0, .reg .l => .res0L
  | .i0, .indHl => .res0IndHl
  | .i0, .reg .a => .res0A
  | .i1, .reg .b => .res1B
  | .i1, .reg .c => .res1C
  | .i1, .reg .d => .res1D
  | .i1, .reg .e => .res1E
  | .i1, .reg .h => .res1H
  | .i1, .reg .l => .res1L
  | .i1, .indHl => .res1IndHl
  | .i1, .reg .a => .res1A
  | .i2, .reg .b => .res2B
  | .i2, .reg .c => .res2C
  | .i2, .reg .d => .res2D
  | .i2, .reg .e => .res2E
  | .i2, .reg .h => .res2H
  | .i2, .reg .l => .res2L
  | .i2, .indHl => .res2IndHl
  | .i2, .reg .a => .res2A
  | .i3, .reg .b => .res3B
  | .i3, .reg .c => .res3C
  | .i3, .reg .d => .res3D
  | .i3, .reg .e => .res3E
  | .i3, .reg .h => .res3H
  | .i3, .reg .l => .res3L
  | .i3, .indHl => .res3IndHl
  | .i3, .reg .a => .res3A
  | .i4, .reg .b => .res4B
  | .i4, .reg .c => .res4C
  | .i4, .reg .d => .res4D
  | .i4, .reg .e => .res4E
  | .i4, .reg .h => .res4H
  | .i4, .reg .l => .res4L
  | .i4, .indHl => .res4IndHl
  | .i4, .reg .a => .res4A
  | .i5, .reg .b => .res5B
  | .i5, .reg .c => .res5C
  | .i5, .reg .d => .res5D
  | .i5, .reg .e => .res5E
  | .i5, .reg .h => .res5H
  | .i5, .reg .l => .res5L
  | .i5, .indHl => .res5IndHl
  | .i5, .reg .a => .res5A
  | .i6, .reg .b => .res6B
  | .i6, .reg .c => .res6C
  | .i6, .reg .d => .res6D
  | .i6, .reg .e => .res6E
  | .i6, .reg .h => .res6H
  | .i6, .reg .l => .res6L
  | .i6, .indHl => .res6IndHl
  | .i6, .reg .a => .res6A
  | .i7, .reg .b => .res7B
  | .i7, .reg .c => .res7C
  | .i7, .reg .d => .res7D
  | .i7, .reg .e => .res7E
  | .i7, .reg .h => .res7H
  | .i7, .reg .l => .res7L
  | .i7, .indHl => .res7IndHl
  | .i7, .reg .a => .res7A

/-- `11 nnn zzz` of the prefixed space: SET (R215). -/
def Instr.ofSet (x : Oct) (y : R8) : Instr :=
  match x, y with
  | .i0, .reg .b => .set0B
  | .i0, .reg .c => .set0C
  | .i0, .reg .d => .set0D
  | .i0, .reg .e => .set0E
  | .i0, .reg .h => .set0H
  | .i0, .reg .l => .set0L
  | .i0, .indHl => .set0IndHl
  | .i0, .reg .a => .set0A
  | .i1, .reg .b => .set1B
  | .i1, .reg .c => .set1C
  | .i1, .reg .d => .set1D
  | .i1, .reg .e => .set1E
  | .i1, .reg .h => .set1H
  | .i1, .reg .l => .set1L
  | .i1, .indHl => .set1IndHl
  | .i1, .reg .a => .set1A
  | .i2, .reg .b => .set2B
  | .i2, .reg .c => .set2C
  | .i2, .reg .d => .set2D
  | .i2, .reg .e => .set2E
  | .i2, .reg .h => .set2H
  | .i2, .reg .l => .set2L
  | .i2, .indHl => .set2IndHl
  | .i2, .reg .a => .set2A
  | .i3, .reg .b => .set3B
  | .i3, .reg .c => .set3C
  | .i3, .reg .d => .set3D
  | .i3, .reg .e => .set3E
  | .i3, .reg .h => .set3H
  | .i3, .reg .l => .set3L
  | .i3, .indHl => .set3IndHl
  | .i3, .reg .a => .set3A
  | .i4, .reg .b => .set4B
  | .i4, .reg .c => .set4C
  | .i4, .reg .d => .set4D
  | .i4, .reg .e => .set4E
  | .i4, .reg .h => .set4H
  | .i4, .reg .l => .set4L
  | .i4, .indHl => .set4IndHl
  | .i4, .reg .a => .set4A
  | .i5, .reg .b => .set5B
  | .i5, .reg .c => .set5C
  | .i5, .reg .d => .set5D
  | .i5, .reg .e => .set5E
  | .i5, .reg .h => .set5H
  | .i5, .reg .l => .set5L
  | .i5, .indHl => .set5IndHl
  | .i5, .reg .a => .set5A
  | .i6, .reg .b => .set6B
  | .i6, .reg .c => .set6C
  | .i6, .reg .d => .set6D
  | .i6, .reg .e => .set6E
  | .i6, .reg .h => .set6H
  | .i6, .reg .l => .set6L
  | .i6, .indHl => .set6IndHl
  | .i6, .reg .a => .set6A
  | .i7, .reg .b => .set7B
  | .i7, .reg .c => .set7C
  | .i7, .reg .d => .set7D
  | .i7, .reg .e => .set7E
  | .i7, .reg .h => .set7H
  | .i7, .reg .l => .set7L
  | .i7, .indHl => .set7IndHl
  | .i7, .reg .a => .set7A

/-- `x = 0` of the primary map (R98). `b1` and `b2` are the two bytes after the opcode; an instruction takes as many of
them as its length asks for. -/
def decodeX0 (y z : Oct) (b1 b2 : Byte) : Instr :=
  match z, y with
  | .i0, .i0 => .nop
  | .i0, .i1 => .ldIndA16Sp (word b2 b1)
  | .i0, .i2 => .stop b1
  | .i0, .i3 => .jrE8 b1
  | .i0, .i4 => Instr.ofJr .nz b1
  | .i0, .i5 => Instr.ofJr .z b1
  | .i0, .i6 => Instr.ofJr .nc b1
  | .i0, .i7 => Instr.ofJr .c b1
  | .i1, .i0 => Instr.ofLd16 .bc (word b2 b1)
  | .i1, .i1 => Instr.ofAddHl .bc
  | .i1, .i2 => Instr.ofLd16 .de (word b2 b1)
  | .i1, .i3 => Instr.ofAddHl .de
  | .i1, .i4 => Instr.ofLd16 .hl (word b2 b1)
  | .i1, .i5 => Instr.ofAddHl .hl
  | .i1, .i6 => Instr.ofLd16 .sp (word b2 b1)
  | .i1, .i7 => Instr.ofAddHl .sp
  | .i2, .i0 => .ldIndBcA
  | .i2, .i1 => .ldAIndBc
  | .i2, .i2 => .ldIndDeA
  | .i2, .i3 => .ldAIndDe
  | .i2, .i4 => .ldIndHlIncA
  | .i2, .i5 => .ldAIndHlInc
  | .i2, .i6 => .ldIndHlDecA
  | .i2, .i7 => .ldAIndHlDec
  | .i3, .i0 => Instr.ofInc16 .bc
  | .i3, .i1 => Instr.ofDec16 .bc
  | .i3, .i2 => Instr.ofInc16 .de
  | .i3, .i3 => Instr.ofDec16 .de
  | .i3, .i4 => Instr.ofInc16 .hl
  | .i3, .i5 => Instr.ofDec16 .hl
  | .i3, .i6 => Instr.ofInc16 .sp
  | .i3, .i7 => Instr.ofDec16 .sp
  | .i4, y => Instr.ofInc (R8.ofField y)
  | .i5, y => Instr.ofDec (R8.ofField y)
  | .i6, y => Instr.ofLdImm (R8.ofField y) b1
  | .i7, .i0 => .rlca
  | .i7, .i1 => .rrca
  | .i7, .i2 => .rla
  | .i7, .i3 => .rra
  | .i7, .i4 => .daa
  | .i7, .i5 => .cpl
  | .i7, .i6 => .scf
  | .i7, .i7 => .ccf

/-- `x = 3` of the primary map (R98); the undefined opcodes are R101's. -/
def decodeX3 (y z : Oct) (b1 b2 : Byte) : Instr :=
  match z, y with
  | .i0, .i0 => Instr.ofRet .nz
  | .i0, .i1 => Instr.ofRet .z
  | .i0, .i2 => Instr.ofRet .nc
  | .i0, .i3 => Instr.ofRet .c
  | .i0, .i4 => .ldhIndA8A b1
  | .i0, .i5 => .addSpE8 b1
  | .i0, .i6 => .ldhAIndA8 b1
  | .i0, .i7 => .ldHlSpE8 b1
  | .i1, .i0 => Instr.ofPop .bc
  | .i1, .i1 => .ret
  | .i1, .i2 => Instr.ofPop .de
  | .i1, .i3 => .reti
  | .i1, .i4 => Instr.ofPop .hl
  | .i1, .i5 => .jpHl
  | .i1, .i6 => Instr.ofPop .af
  | .i1, .i7 => .ldSpHl
  | .i2, .i0 => Instr.ofJp .nz (word b2 b1)
  | .i2, .i1 => Instr.ofJp .z (word b2 b1)
  | .i2, .i2 => Instr.ofJp .nc (word b2 b1)
  | .i2, .i3 => Instr.ofJp .c (word b2 b1)
  | .i2, .i4 => .ldIndCA
  | .i2, .i5 => .ldIndA16A (word b2 b1)
  | .i2, .i6 => .ldAIndC
  | .i2, .i7 => .ldAIndA16 (word b2 b1)
  | .i3, .i0 => .jpA16 (word b2 b1)
  | .i3, .i1 => .prefixCb b1
  | .i3, .i2 => .undefinedD3
  | .i3, .i3 => .undefinedDB
  | .i3, .i4 => .undefinedE3
  | .i3, .i5 => .undefinedEB
  | .i3, .i6 => .di
  | .i3, .i7 => .ei
  | .i4, .i0 => Instr.ofCall .nz (word b2 b1)
  | .i4, .i1 => Instr.ofCall .z (word b2 b1)
  | .i4, .i2 => Instr.ofCall .nc (word b2 b1)
  | .i4, .i3 => Instr.ofCall .c (word b2 b1)
  | .i4, .i4 => .undefinedE4
  | .i4, .i5 => .undefinedEC
  | .i4, .i6 => .undefinedF4
  | .i4, .i7 => .undefinedFC
  | .i5, .i0 => Instr.ofPush .bc
  | .i5, .i1 => .callA16 (word b2 b1)
  | .i5, .i2 => Instr.ofPush .de
  | .i5, .i3 => .undefinedDD
  | .i5, .i4 => Instr.ofPush .hl
  | .i5, .i5 => .undefinedED
  | .i5, .i6 => Instr.ofPush .af
  | .i5, .i7 => .undefinedFD
  | .i6, y => Instr.ofAluImm (AluOp.ofField y) b1
  | .i7, y => Instr.ofRst y

/-- The primary map (R98). The prefix is a row of it, with the prefixed opcode as its operand. -/
def decodePrimary (op b1 b2 : Byte) : Instr :=
  match fieldX op with
  | 0 => decodeX0 (fieldY op) (fieldZ op) b1 b2
  | 1 => Instr.ofLd (R8.ofField (fieldY op)) (R8.ofField (fieldZ op))
  | 2 => Instr.ofAlu (AluOp.ofField (fieldY op)) (R8.ofField (fieldZ op))
  | _ => decodeX3 (fieldY op) (fieldZ op) b1 b2

/-- The prefixed map (R99). -/
def decodePrefixed (op2 : Byte) : Instr :=
  match fieldX op2 with
  | 0 => Instr.ofShift (ShiftOp.ofField (fieldY op2)) (R8.ofField (fieldZ op2))
  | 1 => Instr.ofBit (fieldY op2) (R8.ofField (fieldZ op2))
  | 2 => Instr.ofRes (fieldY op2) (R8.ofField (fieldZ op2))
  | _ => Instr.ofSet (fieldY op2) (R8.ofField (fieldZ op2))

/-- The instruction an opcode and the bytes after it stand for: after 0xCB the prefixed map decides (R91, R254). -/
def decodeAt (op b1 b2 : Byte) : Instr := if op = 0xCB then decodePrefixed b1 else decodePrimary op b1 b2

/-- The instruction of a fetched byte sequence, whose bytes beyond the instruction's length do not matter. -/
def decodeBytes (bytes : List Byte) : Instr := decodeAt (bytes.getD 0 0) (bytes.getD 1 0) (bytes.getD 2 0)

/-- The opcodes of three-byte instructions: formats `op_d16` and `op_a16` (R90, R98). -/
def threeByteOpcodes : List Byte :=
  [0x01, 0x08, 0x11, 0x21, 0x31, 0xC2, 0xC3, 0xC4, 0xCA, 0xCC, 0xCD, 0xD2, 0xD4, 0xDA, 0xDC, 0xEA, 0xFA]

/-- The opcodes of two-byte instructions: formats `op_d8`, `op_e8`, `op_a8`, `stop` and `cb` (R90, R98). -/
def twoByteOpcodes : List Byte :=
  [0x06, 0x0E, 0x10, 0x16, 0x18, 0x1E, 0x20, 0x26, 0x28, 0x2E, 0x30, 0x36, 0x38, 0x3E, 0xC6, 0xCB, 0xCE, 0xD6, 0xDE,
    0xE0, 0xE6, 0xE8, 0xEE, 0xF0, 0xF6, 0xF8, 0xFE]

/-- An instruction's length, from its first byte alone (R103). -/
def lengthOf (op : Byte) : Nat := if op ∈ threeByteOpcodes then 3 else if op ∈ twoByteOpcodes then 2 else 1

/-- Why no instruction can be read from a byte sequence. Every byte value is an opcode, so only the end of the sequence
can be in the way. -/
inductive DecodeError
  /-- There is no byte. -/
  | noBytes
  /-- The opcode asks for more bytes than there are. -/
  | truncated (op : Byte) (length : Nat)
deriving DecidableEq, Repr

/-- The first instruction of a byte sequence, and the bytes after it. -/
def decode : List Byte → Except DecodeError (Instr × List Byte)
  | [] => .error .noBytes
  | op :: rest =>
    if rest.length + 1 < lengthOf op then .error (.truncated op (lengthOf op))
    else .ok (decodeBytes (op :: rest), rest.drop (lengthOf op - 1))

/-- The bytes of an instruction, in the order the hardware stores them (R90, R92; opcodes from
spec/opcode_table.json). -/
def encode : Instr → List Byte
  | .nop => [0x00]
  | .ldBcD16 nn => [0x01, lo nn, hi nn]
  | .ldIndBcA => [0x02]
  | .incBc => [0x03]
  | .incB => [0x04]
  | .decB => [0x05]
  | .ldBD8 n => [0x06, n]
  | .rlca => [0x07]
  | .ldIndA16Sp nn => [0x08, lo nn, hi nn]
  | .addHlBc => [0x09]
  | .ldAIndBc => [0x0A]
  | .decBc => [0x0B]
  | .incC => [0x0C]
  | .decC => [0x0D]
  | .ldCD8 n => [0x0E, n]
  | .rrca => [0x0F]
  | .stop second => [0x10, second]
  | .ldDeD16 nn => [0x11, lo nn, hi nn]
  | .ldIndDeA => [0x12]
  | .incDe => [0x13]
  | .incD => [0x14]
  | .decD => [0x15]
  | .ldDD8 n => [0x16, n]
  | .rla => [0x17]
  | .jrE8 e => [0x18, e]
  | .addHlDe => [0x19]
  | .ldAIndDe => [0x1A]
  | .decDe => [0x1B]
  | .incE => [0x1C]
  | .decE => [0x1D]
  | .ldED8 n => [0x1E, n]
  | .rra => [0x1F]
  | .jrNzE8 e => [0x20, e]
  | .ldHlD16 nn => [0x21, lo nn, hi nn]
  | .ldIndHlIncA => [0x22]
  | .incHl => [0x23]
  | .incH => [0x24]
  | .decH => [0x25]
  | .ldHD8 n => [0x26, n]
  | .daa => [0x27]
  | .jrZE8 e => [0x28, e]
  | .addHlHl => [0x29]
  | .ldAIndHlInc => [0x2A]
  | .decHl => [0x2B]
  | .incL => [0x2C]
  | .decL => [0x2D]
  | .ldLD8 n => [0x2E, n]
  | .cpl => [0x2F]
  | .jrNcE8 e => [0x30, e]
  | .ldSpD16 nn => [0x31, lo nn, hi nn]
  | .ldIndHlDecA => [0x32]
  | .incSp => [0x33]
  | .incIndHl => [0x34]
  | .decIndHl => [0x35]
  | .ldIndHlD8 n => [0x36, n]
  | .scf => [0x37]
  | .jrCE8 e => [0x38, e]
  | .addHlSp => [0x39]
  | .ldAIndHlDec => [0x3A]
  | .decSp => [0x3B]
  | .incA => [0x3C]
  | .decA => [0x3D]
  | .ldAD8 n => [0x3E, n]
  | .ccf => [0x3F]
  | .ldBB => [0x40]
  | .ldBC => [0x41]
  | .ldBD => [0x42]
  | .ldBE => [0x43]
  | .ldBH => [0x44]
  | .ldBL => [0x45]
  | .ldBIndHl => [0x46]
  | .ldBA => [0x47]
  | .ldCB => [0x48]
  | .ldCC => [0x49]
  | .ldCD => [0x4A]
  | .ldCE => [0x4B]
  | .ldCH => [0x4C]
  | .ldCL => [0x4D]
  | .ldCIndHl => [0x4E]
  | .ldCA => [0x4F]
  | .ldDB => [0x50]
  | .ldDC => [0x51]
  | .ldDD => [0x52]
  | .ldDE => [0x53]
  | .ldDH => [0x54]
  | .ldDL => [0x55]
  | .ldDIndHl => [0x56]
  | .ldDA => [0x57]
  | .ldEB => [0x58]
  | .ldEC => [0x59]
  | .ldED => [0x5A]
  | .ldEE => [0x5B]
  | .ldEH => [0x5C]
  | .ldEL => [0x5D]
  | .ldEIndHl => [0x5E]
  | .ldEA => [0x5F]
  | .ldHB => [0x60]
  | .ldHC => [0x61]
  | .ldHD => [0x62]
  | .ldHE => [0x63]
  | .ldHH => [0x64]
  | .ldHL => [0x65]
  | .ldHIndHl => [0x66]
  | .ldHA => [0x67]
  | .ldLB => [0x68]
  | .ldLC => [0x69]
  | .ldLD => [0x6A]
  | .ldLE => [0x6B]
  | .ldLH => [0x6C]
  | .ldLL => [0x6D]
  | .ldLIndHl => [0x6E]
  | .ldLA => [0x6F]
  | .ldIndHlB => [0x70]
  | .ldIndHlC => [0x71]
  | .ldIndHlD => [0x72]
  | .ldIndHlE => [0x73]
  | .ldIndHlH => [0x74]
  | .ldIndHlL => [0x75]
  | .halt => [0x76]
  | .ldIndHlA => [0x77]
  | .ldAB => [0x78]
  | .ldAC => [0x79]
  | .ldAD => [0x7A]
  | .ldAE => [0x7B]
  | .ldAH => [0x7C]
  | .ldAL => [0x7D]
  | .ldAIndHl => [0x7E]
  | .ldAA => [0x7F]
  | .addAB => [0x80]
  | .addAC => [0x81]
  | .addAD => [0x82]
  | .addAE => [0x83]
  | .addAH => [0x84]
  | .addAL => [0x85]
  | .addAIndHl => [0x86]
  | .addAA => [0x87]
  | .adcAB => [0x88]
  | .adcAC => [0x89]
  | .adcAD => [0x8A]
  | .adcAE => [0x8B]
  | .adcAH => [0x8C]
  | .adcAL => [0x8D]
  | .adcAIndHl => [0x8E]
  | .adcAA => [0x8F]
  | .subB => [0x90]
  | .subC => [0x91]
  | .subD => [0x92]
  | .subE => [0x93]
  | .subH => [0x94]
  | .subL => [0x95]
  | .subIndHl => [0x96]
  | .subA => [0x97]
  | .sbcAB => [0x98]
  | .sbcAC => [0x99]
  | .sbcAD => [0x9A]
  | .sbcAE => [0x9B]
  | .sbcAH => [0x9C]
  | .sbcAL => [0x9D]
  | .sbcAIndHl => [0x9E]
  | .sbcAA => [0x9F]
  | .andB => [0xA0]
  | .andC => [0xA1]
  | .andD => [0xA2]
  | .andE => [0xA3]
  | .andH => [0xA4]
  | .andL => [0xA5]
  | .andIndHl => [0xA6]
  | .andA => [0xA7]
  | .xorB => [0xA8]
  | .xorC => [0xA9]
  | .xorD => [0xAA]
  | .xorE => [0xAB]
  | .xorH => [0xAC]
  | .xorL => [0xAD]
  | .xorIndHl => [0xAE]
  | .xorA => [0xAF]
  | .orB => [0xB0]
  | .orC => [0xB1]
  | .orD => [0xB2]
  | .orE => [0xB3]
  | .orH => [0xB4]
  | .orL => [0xB5]
  | .orIndHl => [0xB6]
  | .orA => [0xB7]
  | .cpB => [0xB8]
  | .cpC => [0xB9]
  | .cpD => [0xBA]
  | .cpE => [0xBB]
  | .cpH => [0xBC]
  | .cpL => [0xBD]
  | .cpIndHl => [0xBE]
  | .cpA => [0xBF]
  | .retNz => [0xC0]
  | .popBc => [0xC1]
  | .jpNzA16 nn => [0xC2, lo nn, hi nn]
  | .jpA16 nn => [0xC3, lo nn, hi nn]
  | .callNzA16 nn => [0xC4, lo nn, hi nn]
  | .pushBc => [0xC5]
  | .addAD8 n => [0xC6, n]
  | .rst00 => [0xC7]
  | .retZ => [0xC8]
  | .ret => [0xC9]
  | .jpZA16 nn => [0xCA, lo nn, hi nn]
  | .prefixCb op2 => [0xCB, op2]
  | .callZA16 nn => [0xCC, lo nn, hi nn]
  | .callA16 nn => [0xCD, lo nn, hi nn]
  | .adcAD8 n => [0xCE, n]
  | .rst08 => [0xCF]
  | .retNc => [0xD0]
  | .popDe => [0xD1]
  | .jpNcA16 nn => [0xD2, lo nn, hi nn]
  | .undefinedD3 => [0xD3]
  | .callNcA16 nn => [0xD4, lo nn, hi nn]
  | .pushDe => [0xD5]
  | .subD8 n => [0xD6, n]
  | .rst10 => [0xD7]
  | .retC => [0xD8]
  | .reti => [0xD9]
  | .jpCA16 nn => [0xDA, lo nn, hi nn]
  | .undefinedDB => [0xDB]
  | .callCA16 nn => [0xDC, lo nn, hi nn]
  | .undefinedDD => [0xDD]
  | .sbcAD8 n => [0xDE, n]
  | .rst18 => [0xDF]
  | .ldhIndA8A n => [0xE0, n]
  | .popHl => [0xE1]
  | .ldIndCA => [0xE2]
  | .undefinedE3 => [0xE3]
  | .undefinedE4 => [0xE4]
  | .pushHl => [0xE5]
  | .andD8 n => [0xE6, n]
  | .rst20 => [0xE7]
  | .addSpE8 e => [0xE8, e]
  | .jpHl => [0xE9]
  | .ldIndA16A nn => [0xEA, lo nn, hi nn]
  | .undefinedEB => [0xEB]
  | .undefinedEC => [0xEC]
  | .undefinedED => [0xED]
  | .xorD8 n => [0xEE, n]
  | .rst28 => [0xEF]
  | .ldhAIndA8 n => [0xF0, n]
  | .popAf => [0xF1]
  | .ldAIndC => [0xF2]
  | .di => [0xF3]
  | .undefinedF4 => [0xF4]
  | .pushAf => [0xF5]
  | .orD8 n => [0xF6, n]
  | .rst30 => [0xF7]
  | .ldHlSpE8 e => [0xF8, e]
  | .ldSpHl => [0xF9]
  | .ldAIndA16 nn => [0xFA, lo nn, hi nn]
  | .ei => [0xFB]
  | .undefinedFC => [0xFC]
  | .undefinedFD => [0xFD]
  | .cpD8 n => [0xFE, n]
  | .rst38 => [0xFF]
  | .rlcB => [0xCB, 0x00]
  | .rlcC => [0xCB, 0x01]
  | .rlcD => [0xCB, 0x02]
  | .rlcE => [0xCB, 0x03]
  | .rlcH => [0xCB, 0x04]
  | .rlcL => [0xCB, 0x05]
  | .rlcIndHl => [0xCB, 0x06]
  | .rlcA => [0xCB, 0x07]
  | .rrcB => [0xCB, 0x08]
  | .rrcC => [0xCB, 0x09]
  | .rrcD => [0xCB, 0x0A]
  | .rrcE => [0xCB, 0x0B]
  | .rrcH => [0xCB, 0x0C]
  | .rrcL => [0xCB, 0x0D]
  | .rrcIndHl => [0xCB, 0x0E]
  | .rrcA => [0xCB, 0x0F]
  | .rlB => [0xCB, 0x10]
  | .rlC => [0xCB, 0x11]
  | .rlD => [0xCB, 0x12]
  | .rlE => [0xCB, 0x13]
  | .rlH => [0xCB, 0x14]
  | .rlL => [0xCB, 0x15]
  | .rlIndHl => [0xCB, 0x16]
  | .rlA => [0xCB, 0x17]
  | .rrB => [0xCB, 0x18]
  | .rrC => [0xCB, 0x19]
  | .rrD => [0xCB, 0x1A]
  | .rrE => [0xCB, 0x1B]
  | .rrH => [0xCB, 0x1C]
  | .rrL => [0xCB, 0x1D]
  | .rrIndHl => [0xCB, 0x1E]
  | .rrA => [0xCB, 0x1F]
  | .slaB => [0xCB, 0x20]
  | .slaC => [0xCB, 0x21]
  | .slaD => [0xCB, 0x22]
  | .slaE => [0xCB, 0x23]
  | .slaH => [0xCB, 0x24]
  | .slaL => [0xCB, 0x25]
  | .slaIndHl => [0xCB, 0x26]
  | .slaA => [0xCB, 0x27]
  | .sraB => [0xCB, 0x28]
  | .sraC => [0xCB, 0x29]
  | .sraD => [0xCB, 0x2A]
  | .sraE => [0xCB, 0x2B]
  | .sraH => [0xCB, 0x2C]
  | .sraL => [0xCB, 0x2D]
  | .sraIndHl => [0xCB, 0x2E]
  | .sraA => [0xCB, 0x2F]
  | .swapB => [0xCB, 0x30]
  | .swapC => [0xCB, 0x31]
  | .swapD => [0xCB, 0x32]
  | .swapE => [0xCB, 0x33]
  | .swapH => [0xCB, 0x34]
  | .swapL => [0xCB, 0x35]
  | .swapIndHl => [0xCB, 0x36]
  | .swapA => [0xCB, 0x37]
  | .srlB => [0xCB, 0x38]
  | .srlC => [0xCB, 0x39]
  | .srlD => [0xCB, 0x3A]
  | .srlE => [0xCB, 0x3B]
  | .srlH => [0xCB, 0x3C]
  | .srlL => [0xCB, 0x3D]
  | .srlIndHl => [0xCB, 0x3E]
  | .srlA => [0xCB, 0x3F]
  | .bit0B => [0xCB, 0x40]
  | .bit0C => [0xCB, 0x41]
  | .bit0D => [0xCB, 0x42]
  | .bit0E => [0xCB, 0x43]
  | .bit0H => [0xCB, 0x44]
  | .bit0L => [0xCB, 0x45]
  | .bit0IndHl => [0xCB, 0x46]
  | .bit0A => [0xCB, 0x47]
  | .bit1B => [0xCB, 0x48]
  | .bit1C => [0xCB, 0x49]
  | .bit1D => [0xCB, 0x4A]
  | .bit1E => [0xCB, 0x4B]
  | .bit1H => [0xCB, 0x4C]
  | .bit1L => [0xCB, 0x4D]
  | .bit1IndHl => [0xCB, 0x4E]
  | .bit1A => [0xCB, 0x4F]
  | .bit2B => [0xCB, 0x50]
  | .bit2C => [0xCB, 0x51]
  | .bit2D => [0xCB, 0x52]
  | .bit2E => [0xCB, 0x53]
  | .bit2H => [0xCB, 0x54]
  | .bit2L => [0xCB, 0x55]
  | .bit2IndHl => [0xCB, 0x56]
  | .bit2A => [0xCB, 0x57]
  | .bit3B => [0xCB, 0x58]
  | .bit3C => [0xCB, 0x59]
  | .bit3D => [0xCB, 0x5A]
  | .bit3E => [0xCB, 0x5B]
  | .bit3H => [0xCB, 0x5C]
  | .bit3L => [0xCB, 0x5D]
  | .bit3IndHl => [0xCB, 0x5E]
  | .bit3A => [0xCB, 0x5F]
  | .bit4B => [0xCB, 0x60]
  | .bit4C => [0xCB, 0x61]
  | .bit4D => [0xCB, 0x62]
  | .bit4E => [0xCB, 0x63]
  | .bit4H => [0xCB, 0x64]
  | .bit4L => [0xCB, 0x65]
  | .bit4IndHl => [0xCB, 0x66]
  | .bit4A => [0xCB, 0x67]
  | .bit5B => [0xCB, 0x68]
  | .bit5C => [0xCB, 0x69]
  | .bit5D => [0xCB, 0x6A]
  | .bit5E => [0xCB, 0x6B]
  | .bit5H => [0xCB, 0x6C]
  | .bit5L => [0xCB, 0x6D]
  | .bit5IndHl => [0xCB, 0x6E]
  | .bit5A => [0xCB, 0x6F]
  | .bit6B => [0xCB, 0x70]
  | .bit6C => [0xCB, 0x71]
  | .bit6D => [0xCB, 0x72]
  | .bit6E => [0xCB, 0x73]
  | .bit6H => [0xCB, 0x74]
  | .bit6L => [0xCB, 0x75]
  | .bit6IndHl => [0xCB, 0x76]
  | .bit6A => [0xCB, 0x77]
  | .bit7B => [0xCB, 0x78]
  | .bit7C => [0xCB, 0x79]
  | .bit7D => [0xCB, 0x7A]
  | .bit7E => [0xCB, 0x7B]
  | .bit7H => [0xCB, 0x7C]
  | .bit7L => [0xCB, 0x7D]
  | .bit7IndHl => [0xCB, 0x7E]
  | .bit7A => [0xCB, 0x7F]
  | .res0B => [0xCB, 0x80]
  | .res0C => [0xCB, 0x81]
  | .res0D => [0xCB, 0x82]
  | .res0E => [0xCB, 0x83]
  | .res0H => [0xCB, 0x84]
  | .res0L => [0xCB, 0x85]
  | .res0IndHl => [0xCB, 0x86]
  | .res0A => [0xCB, 0x87]
  | .res1B => [0xCB, 0x88]
  | .res1C => [0xCB, 0x89]
  | .res1D => [0xCB, 0x8A]
  | .res1E => [0xCB, 0x8B]
  | .res1H => [0xCB, 0x8C]
  | .res1L => [0xCB, 0x8D]
  | .res1IndHl => [0xCB, 0x8E]
  | .res1A => [0xCB, 0x8F]
  | .res2B => [0xCB, 0x90]
  | .res2C => [0xCB, 0x91]
  | .res2D => [0xCB, 0x92]
  | .res2E => [0xCB, 0x93]
  | .res2H => [0xCB, 0x94]
  | .res2L => [0xCB, 0x95]
  | .res2IndHl => [0xCB, 0x96]
  | .res2A => [0xCB, 0x97]
  | .res3B => [0xCB, 0x98]
  | .res3C => [0xCB, 0x99]
  | .res3D => [0xCB, 0x9A]
  | .res3E => [0xCB, 0x9B]
  | .res3H => [0xCB, 0x9C]
  | .res3L => [0xCB, 0x9D]
  | .res3IndHl => [0xCB, 0x9E]
  | .res3A => [0xCB, 0x9F]
  | .res4B => [0xCB, 0xA0]
  | .res4C => [0xCB, 0xA1]
  | .res4D => [0xCB, 0xA2]
  | .res4E => [0xCB, 0xA3]
  | .res4H => [0xCB, 0xA4]
  | .res4L => [0xCB, 0xA5]
  | .res4IndHl => [0xCB, 0xA6]
  | .res4A => [0xCB, 0xA7]
  | .res5B => [0xCB, 0xA8]
  | .res5C => [0xCB, 0xA9]
  | .res5D => [0xCB, 0xAA]
  | .res5E => [0xCB, 0xAB]
  | .res5H => [0xCB, 0xAC]
  | .res5L => [0xCB, 0xAD]
  | .res5IndHl => [0xCB, 0xAE]
  | .res5A => [0xCB, 0xAF]
  | .res6B => [0xCB, 0xB0]
  | .res6C => [0xCB, 0xB1]
  | .res6D => [0xCB, 0xB2]
  | .res6E => [0xCB, 0xB3]
  | .res6H => [0xCB, 0xB4]
  | .res6L => [0xCB, 0xB5]
  | .res6IndHl => [0xCB, 0xB6]
  | .res6A => [0xCB, 0xB7]
  | .res7B => [0xCB, 0xB8]
  | .res7C => [0xCB, 0xB9]
  | .res7D => [0xCB, 0xBA]
  | .res7E => [0xCB, 0xBB]
  | .res7H => [0xCB, 0xBC]
  | .res7L => [0xCB, 0xBD]
  | .res7IndHl => [0xCB, 0xBE]
  | .res7A => [0xCB, 0xBF]
  | .set0B => [0xCB, 0xC0]
  | .set0C => [0xCB, 0xC1]
  | .set0D => [0xCB, 0xC2]
  | .set0E => [0xCB, 0xC3]
  | .set0H => [0xCB, 0xC4]
  | .set0L => [0xCB, 0xC5]
  | .set0IndHl => [0xCB, 0xC6]
  | .set0A => [0xCB, 0xC7]
  | .set1B => [0xCB, 0xC8]
  | .set1C => [0xCB, 0xC9]
  | .set1D => [0xCB, 0xCA]
  | .set1E => [0xCB, 0xCB]
  | .set1H => [0xCB, 0xCC]
  | .set1L => [0xCB, 0xCD]
  | .set1IndHl => [0xCB, 0xCE]
  | .set1A => [0xCB, 0xCF]
  | .set2B => [0xCB, 0xD0]
  | .set2C => [0xCB, 0xD1]
  | .set2D => [0xCB, 0xD2]
  | .set2E => [0xCB, 0xD3]
  | .set2H => [0xCB, 0xD4]
  | .set2L => [0xCB, 0xD5]
  | .set2IndHl => [0xCB, 0xD6]
  | .set2A => [0xCB, 0xD7]
  | .set3B => [0xCB, 0xD8]
  | .set3C => [0xCB, 0xD9]
  | .set3D => [0xCB, 0xDA]
  | .set3E => [0xCB, 0xDB]
  | .set3H => [0xCB, 0xDC]
  | .set3L => [0xCB, 0xDD]
  | .set3IndHl => [0xCB, 0xDE]
  | .set3A => [0xCB, 0xDF]
  | .set4B => [0xCB, 0xE0]
  | .set4C => [0xCB, 0xE1]
  | .set4D => [0xCB, 0xE2]
  | .set4E => [0xCB, 0xE3]
  | .set4H => [0xCB, 0xE4]
  | .set4L => [0xCB, 0xE5]
  | .set4IndHl => [0xCB, 0xE6]
  | .set4A => [0xCB, 0xE7]
  | .set5B => [0xCB, 0xE8]
  | .set5C => [0xCB, 0xE9]
  | .set5D => [0xCB, 0xEA]
  | .set5E => [0xCB, 0xEB]
  | .set5H => [0xCB, 0xEC]
  | .set5L => [0xCB, 0xED]
  | .set5IndHl => [0xCB, 0xEE]
  | .set5A => [0xCB, 0xEF]
  | .set6B => [0xCB, 0xF0]
  | .set6C => [0xCB, 0xF1]
  | .set6D => [0xCB, 0xF2]
  | .set6E => [0xCB, 0xF3]
  | .set6H => [0xCB, 0xF4]
  | .set6L => [0xCB, 0xF5]
  | .set6IndHl => [0xCB, 0xF6]
  | .set6A => [0xCB, 0xF7]
  | .set7B => [0xCB, 0xF8]
  | .set7C => [0xCB, 0xF9]
  | .set7D => [0xCB, 0xFA]
  | .set7E => [0xCB, 0xFB]
  | .set7H => [0xCB, 0xFC]
  | .set7L => [0xCB, 0xFD]
  | .set7IndHl => [0xCB, 0xFE]
  | .set7A => [0xCB, 0xFF]

/-- The three bytes at rising addresses that a word of the opcode table stands for, the first byte at the lowest address.
The table writes a prefixed row as one number with the prefix in bits 15 to 8 (`0xCB00`); every other row has its first
byte in bits 7 to 0 (log entry 10). -/
def tableBytes (nbits w : Nat) : List Byte :=
  if nbits = 16 ∧ w / 256 = 0xCB then [0xCB, BitVec.ofNat 8 w, 0]
  else [BitVec.ofNat 8 w, BitVec.ofNat 8 (w / 256), BitVec.ofNat 8 (w / 65536)]

/-- The instruction the decoder reads from a row of the opcode table. A row of 8 bits is a row of the primary map, where
the prefix stands for itself; a longer one is decoded whole (log entry 10). -/
def decodeTableWord (nbits w : Nat) : Option Instr :=
  let bytes := tableBytes nbits w
  if nbits ≤ 8 then some (decodePrimary (bytes.getD 0 0) (bytes.getD 1 0) (bytes.getD 2 0))
  else
    match decode bytes with
    | .ok (i, _) => some i
    | .error _ => none

end Sys2Proof
end

