-- ==== Sys2Proof/Machine/Renderer.lean ====
section
/-! DEFINITION. The pixel renderer's mode sequencer and the interface of its compositing (60_exceptions.md R360 to
R365). -/

namespace Sys2Proof.Machine

/-- The tick budget of a mode (R360, R365). -/
def modeBudget : Mode → Nat
  | .oamScan => 80
  | .pixelTransfer => 172
  | .hBlank => 204
  | .vBlank => 456

/-- What `RENDER_LINE` reads (R362). -/
def renderView (ram : Memory) (p : Ppu) : RenderView :=
  { vram := ram.window 0x8000 0xA000
    oam := ram.window 0xFE00 0xFEA0
    lcdc := p.lcdc
    scy := p.scy
    scx := p.scx
    wy := p.wy
    wx := p.wx
    bgp := p.bgp
    obp0 := p.obp0
    obp1 := p.obp1 }

/-- One framebuffer row replaced, rows kept in rising order. -/
def setRow : List (Nat × Row) → Nat → Row → List (Nat × Row)
  | [], n, row => [(n, row)]
  | (k, r) :: fb, n, row =>
    if n < k then (n, row) :: (k, r) :: fb
    else if n = k then (n, row) :: fb
    else (k, r) :: setRow fb n row

/-- A row as the host reads it out: what was rendered last, or what power-on left (R343, R400). -/
def readRow : List (Nat × Row) → Nat → Row
  | [], n => Config.framebufferInit n
  | (k, r) :: fb, n => if k = n then r else readRow fb n

/-- What a renderer tick signals: VBlank and LCD-Status (R360). -/
structure Signals where
  vb : Bool := false
  st : Bool := false
deriving DecidableEq, Repr

/-- `STAT_sel[3] and line == LYC` (R360). -/
def lycSelected (p : Ppu) : Bool := p.statSel.getLsbD 3 && p.line == p.lyc

/-- The end of a mode's budget (R360). -/
def leaveMode (ram : Memory) (p : Ppu) : Ppu × Signals :=
  match p.mode with
  | .oamScan => ({ p with mode := .pixelTransfer }, {})
  | .pixelTransfer =>
    ({ p with
        mode := .hBlank
        framebuffer := setRow p.framebuffer p.line.toNat (Config.renderLine (renderView ram p) p.line.toNat) },
      { st := p.statSel.getLsbD 0 })
  | .hBlank =>
    let q := { p with line := p.line + 1 }
    if q.line = 144 then ({ q with mode := .vBlank }, { vb := true, st := p.statSel.getLsbD 1 || lycSelected q })
    else ({ q with mode := .oamScan }, { st := p.statSel.getLsbD 2 || lycSelected q })
  | .vBlank =>
    if p.line.toNat + 1 > 153 then
      let q := { p with line := 0, mode := .oamScan }
      (q, { st := p.statSel.getLsbD 2 || lycSelected q })
    else
      let q := { p with line := p.line + 1 }
      (q, { st := lycSelected q })

/-- One renderer tick (R360). -/
def rendererTick (ram : Memory) (p : Ppu) : Ppu × Signals :=
  let q := { p with modeClock := p.modeClock + 1 }
  if modeBudget p.mode ≤ q.modeClock then leaveMode ram { q with modeClock := 0 } else (q, {})

/-- Several renderer ticks, their signals joined. -/
def rendererAdvance (ram : Memory) : Nat → Ppu → Ppu × Signals
  | 0, p => (p, {})
  | k + 1, p =>
    let first := rendererTick ram p
    let rest := rendererAdvance ram k first.1
    (rest.1, { vb := first.2.vb || rest.2.vb, st := first.2.st || rest.2.st })

/-- Whether the renderer is frozen: `LCD_OFF_STOPS_RENDERER` and LCDC bit 7 = 0 (R364). -/
def rendererFrozen (s : State) : Bool := s.params.lcdOffStopsRenderer && !s.ppu.lcdc.getLsbD 7

/-- `RendererStep()` (R360, R364). -/
def rendererStep (s : State) : Ppu × Signals :=
  if rendererFrozen s then (s.ppu, {}) else rendererAdvance s.ram s.params.rendererTicksPerStep s.ppu

end Sys2Proof.Machine
end

