-- ==== Sys2Proof/Machine/Timer.lean ====
section
/-! DEFINITION. The timer's advance (60_exceptions.md R350 to R352). -/

namespace Sys2Proof.Machine

/-- The `div_counter` bit that TAC[1:0] selects (R351). -/
def timerBit (tac : BitVec 3) : Nat :=
  match tac.toNat % 4 with
  | 0 => 9
  | 1 => 3
  | 2 => 5
  | _ => 7

/-- One count: the new timer, and whether TIMA overflowed (R350). -/
def timerCount (t : Timer) : Timer × Bool :=
  let next := t.divCounter + 1
  let u := { t with divCounter := next }
  if t.tac.getLsbD 2 && t.divCounter.getLsbD (timerBit t.tac) && !next.getLsbD (timerBit t.tac) then
    if t.tima = 0xFF then ({ u with tima := t.tma }, true) else ({ u with tima := t.tima + 1 }, false)
  else (u, false)

/-- `TimerAdvance(k)`: whether TIMA overflowed at least once (R350). -/
def timerAdvance : Nat → Timer → Timer × Bool
  | 0, t => (t, false)
  | k + 1, t =>
    let first := timerCount t
    let rest := timerAdvance k first.1
    (rest.1, first.2 || rest.2)

end Sys2Proof.Machine
end

