-- ==== Sys2Proof/Machine/Scheduler.lean ====
section
/-! DEFINITION. The machine cycle scheduler: one tick in the order of 60_exceptions.md R340. The instruction engine is an
argument here; `step` supplies `exec`. -/

namespace Sys2Proof.Machine

/-- The gap before the tick: the host's joypad request, if its list of moves says so (R312, log entry 6); and the tick's
output starts as false (R342). -/
def hostGap (s : State) : State :=
  let t := { s with joypadMoves := s.joypadMoves.tail, frameBit := false }
  match s.joypadMoves with
  | true :: _ => t.raiseInt .joypad
  | _ => t

/-- Step (1): the wake-up from HALT and, under `HaltUntilJoypad`, from STOP (R340, R323, 46_system.md R253). -/
def wakeUp (s : State) : State :=
  let t := if s.halted && decide (pendingEnabled s ≠ 0) then s.setHalted false else s
  if t.stopped && decide (t.params.stopMode = .haltUntilJoypad) && t.ifReg.getLsbD 4 then t.setStopped false else t

/-- A dispatch point: neither halted nor stopped, and `busy = 0` (R326). -/
def atDispatchPoint (s : State) : Bool := !s.halted && !s.stopped && decide (s.busy = 0)

/-- `FetchAndExecute()` (30_encoding.md R91): the bytes the opcode's length asks for, each fetched in order and the pc
advanced past it, then the instruction they decode to. -/
def fetchAndExecute (engine : Instr → State → Result) (s : State) : Result :=
  let fetched := (fetch8 s).bind fun op t => (fetchBytes (lengthOf op - 1) t).bind fun rest u => .ok (op :: rest) u
  match fetched with
  | .ok bytes t => engine (decodeBytes bytes) t
  | .stop t => .next t

/-- The EI latch's commit: sampled before the instruction, committed after it if still set; not after a fault or a refusal
(R341, R301). -/
def commitLatch (before : Bool) (s : State) : State :=
  if before && s.eiPending && decide (s.outcome = .running) then (s.setIme true).setEi false else s

/-- Steps (2) and (3): at a dispatch point an interrupt, or else an instruction with the latch applied around it. -/
def dispatchPhase (engine : Instr → State → Result) (s : State) : Result :=
  if atDispatchPoint s then
    match interruptSelect s with
    | some n => interruptDispatch n s
    | none =>
      match fetchAndExecute engine s with
      | .next t => .next (commitLatch s.eiPending t)
      | r => r
  else .next s

/-- Steps (4) and (5): the renderer, then the timer, their interrupts ORed into IF, and the frame bit (R340, R342). -/
def deviceStep (s : State) : State :=
  let r := rendererStep s
  let s1 := { s.setPpu r.1 with frameBit := r.2.vb }
  let s2 := if r.2.vb then s1.raiseInt .vBlank else s1
  let s3 := if r.2.st then s2.raiseInt .lcdStatus else s2
  let t := timerAdvance s3.params.timerCyclesPerStep s3.timer
  let s4 := s3.setTimer t.1
  if t.2 then s4.raiseInt .timer else s4

/-- Step (6): the accounting, skipped while halted or stopped (R340). -/
def accounting (s : State) : State :=
  if s.halted || s.stopped then s else { s with busy := s.busy - 1, clock := s.clock + 1 }

/-- `Step()` (R340). A run that has ended stays ended, and no later tick changes any state (R300, R302): there is no next
state, and the answer is the record (log entry 8). A fault or a refusal inside steps (2) and (3) ends the tick there
(R301). -/
def tick (engine : Instr → State → Result) (s : State) : Result :=
  match s.outcome with
  | .faulted r => .fault r
  | .refused r => .refused r
  | .running =>
    match dispatchPhase engine (wakeUp (hostGap s)) with
    | .next t => if t.outcome = .running then .next (accounting (deviceStep t)) else .next t
    | r => r

/-- The machine at a dispatch point that executes an instruction next: running, neither halted nor stopped, `busy = 0`,
and no interrupt to dispatch (R326). A field that is so already stays. -/
def readyToFetch (s : State) : State :=
  { s with
    outcome := .running
    halted := false
    stopped := false
    busy := 0
    ime := s.ime && decide (pendingEnabled (hostGap s) = 0) }

/-- The bytes of an instruction placed where the next fetch reads them, at a dispatch point. Where the pc is in a range no
byte can be placed in, it moves to 0xC000 first (log entry 9). -/
def placeInstr (bytes : List Byte) (s : State) : State :=
  let r := readyToFetch s
  let t := if placeable r.pc && placeable (r.pc + 1) && placeable (r.pc + 2) then r else r.setPc 0xC000
  placeBytes t.pc bytes t

end Sys2Proof.Machine
end

