-- ==== Sys2Proof/Machine/Step.lean ====
section
/-! DEFINITION. One scheduler tick of the block, and the loader's placement of an instruction where the next tick fetches
it. -/

namespace Sys2Proof.Machine

/-- One tick (60_exceptions.md R340), the instruction engine being `exec`. -/
def step (s : State) : Host.Outcome State Fault Refusal := tick exec s

/-- The state with the table word's instruction placed where the next tick fetches (log entry 9). -/
def State.withFetchWord (s : State) (nbits w : Nat) : State := placeInstr (tableBytes nbits w) s

end Sys2Proof.Machine
end

