-- ==== Sys2Proof/Safety.lean ====
section
/-! DEFINITION. What counts as a good state and a safe run, in the terms claims use: the invariant every tick keeps, the end
of a run, and which bytes an instruction stores to. -/

namespace Sys2Proof.Machine

/-- An address at which RAM keeps a byte: VRAM, WRAM, OAM or HRAM; never a mirror address (10_state.md R36, R56). -/
def isRamKey (k : Nat) : Bool :=
  (decide (0x8000 ≤ k) && decide (k < 0xA000)) || (decide (0xC000 ≤ k) && decide (k < 0xE000)) ||
    (decide (0xFE00 ≤ k) && decide (k < 0xFEA0)) || (decide (0xFF80 ≤ k) && decide (k < 0xFFFF))

/-- Rendered rows in rising order, all on the screen (R35). -/
def rowsWf : List (Nat × Row) → Bool
  | [] => true
  | (k, _) :: fb => decide (k < 144) && fb.all (fun c => decide (k < c.1)) && rowsWf fb

/-- F's low nibble is zero (R21). -/
abbrev LowNibbleZero (s : State) : Prop := s.regs.f &&& 0x0F = 0

/-- The RAM arrays in canonical form, every entry at a RAM address. -/
abbrev RamGood (m : Memory) : Prop := m.wf = true ∧ m.all (fun c => isRamKey c.1) = true

/-- The renderer's own invariant: the scanline is 0 to 153, VBlank is exactly the lines from 144 on, the mode counter is
within the mode's budget, and the rendered rows are in order (R35, 60_exceptions.md R360). -/
abbrev PpuGood (p : Ppu) : Prop :=
  p.line.toNat ≤ 153 ∧ (p.mode = .vBlank ↔ 144 ≤ p.line.toNat) ∧ p.modeClock < modeBudget p.mode ∧
    rowsWf p.framebuffer = true

/-- The images supplied from outside are in canonical form. -/
abbrev ImagesGood (s : State) : Prop := s.cart.rom.wf = true ∧ s.params.bootImage.wf = true

/-- The invariant of the machine. `busy ≤ 6` is 92_eei_decisions.md D37. -/
abbrev State.Inv (s : State) : Prop :=
  LowNibbleZero s ∧ RamGood s.ram ∧ PpuGood s.ppu ∧ ImagesGood s ∧ s.busy ≤ 6

/-- The success end of a run: a dispatch point with `18 FE` (JR -2) at the pc (70_reset_and_hazards.md R430). -/
def atSuccess (s : State) : Bool :=
  decide (s.outcome = .running) && atDispatchPoint s && decide (busPeek true s s.pc = some 0x18) &&
    decide (busPeek true s (s.pc + 1) = some 0xFE)

/-- A safe tick: it leads to a state whose run has neither faulted nor been refused (R300, R302). -/
def SafeTick (s : State) : Prop := ∃ t, step s = .next t ∧ t.outcome = .running

/-- A byte of a RAM array that the CPU can reach: a store there does nothing but change the byte (20_memory.md R56, R62). -/
def plainRam (s : State) (a : Word) : Bool :=
  match region a with
  | .vram => !vramLocked s
  | .wram => true
  | .echo => true
  | .oam => !oamLocked s
  | .hram => true
  | .rom => false
  | .cartRam => false
  | .hole => false
  | .io => false
  | .ie => false

/-- The value of an `r8` operand: the register, or the byte a read at HL gives; none where that read faults
(30_encoding.md R93). -/
def operandValue (x : R8) (s : State) : Option Byte :=
  match x with
  | .reg r => some (s.get8 r)
  | .indHl => busPeek true s s.hl

/-- `i` is the accumulator operation `op` in one of its operand forms, with the operand byte `b` and the cost of the form: a
register, the byte at HL where it can be read, or an immediate of any value (42_alu8.md R161). -/
def AluForm (op : AluOp) (s : State) (i : Instr) (b : Byte) (cost : Nat) : Prop :=
  (∃ x : R8, operandValue x s = some b ∧ i = Instr.ofAlu op x ∧ cost = if x = .indHl then 2 else 1) ∨
    (i = Instr.ofAluImm op b ∧ cost = 2)

/-- `t` differs from `s` in the 8-bit registers at most, beside the cost in `busy` and the count of joypad draws, which a
read of 0xFF00 moves (log entry 4). -/
def OnlyRegs (s t : State) (cost : Nat) : Prop :=
  t = { s with regs := t.regs, busy := cost, joypadDraws := t.joypadDraws }

/-- The state whose outcome is an invalid access's record (R300). -/
def invalidAt (a : Word) (d : Dir) (s : State) : State := { s with outcome := .faulted (.invalidAccess a d) }

/-- The addresses an instruction stores to, computed from the state after its fetch: the target of a store, the two bytes
of a pushed word, the operand (HL) of a read-modify-write; none for a form that stores nothing. -/
def storeAddresses (i : Instr) (s : State) : List Word :=
  match i with
  | .ldIndHlB | .ldIndHlC | .ldIndHlD | .ldIndHlE | .ldIndHlH | .ldIndHlL | .ldIndHlA | .ldIndHlD8 _ |
    .ldIndHlIncA | .ldIndHlDecA | .incIndHl | .decIndHl | .rlcIndHl | .rrcIndHl | .rlIndHl | .rrIndHl |
    .slaIndHl | .sraIndHl | .swapIndHl | .srlIndHl | .res0IndHl | .res1IndHl | .res2IndHl | .res3IndHl |
    .res4IndHl | .res5IndHl | .res6IndHl | .res7IndHl | .set0IndHl | .set1IndHl | .set2IndHl | .set3IndHl |
    .set4IndHl | .set5IndHl | .set6IndHl | .set7IndHl => [s.hl]
  | .ldIndBcA => [s.bc]
  | .ldIndDeA => [s.de]
  | .ldIndA16A nn => [nn]
  | .ldhIndA8A n => [highPage n]
  | .ldIndCA => [highPage s.regs.c]
  | .ldIndA16Sp nn => [nn, nn + 1]
  | .pushBc | .pushDe | .pushHl | .pushAf | .callA16 _ | .rst00 | .rst08 | .rst10 | .rst18 | .rst20 | .rst28 |
    .rst30 | .rst38 => [s.sp - 1, s.sp - 2]
  | .callNzA16 _ => if condHolds .nz s then [s.sp - 1, s.sp - 2] else []
  | .callZA16 _ => if condHolds .z s then [s.sp - 1, s.sp - 2] else []
  | .callNcA16 _ => if condHolds .nc s then [s.sp - 1, s.sp - 2] else []
  | .callCA16 _ => if condHolds .c s then [s.sp - 1, s.sp - 2] else []
  | .prefixCb op2 => if fieldZ op2 = .i6 ∧ fieldX op2 ≠ 1 then [s.hl] else []
  | _ => []

/-- The 8-bit registers an instruction may write, F apart: its destination, the pair it moves or pops into, HL where it
moves with the access (42_alu8.md, 40_load8.md R123 to R126). -/
def destRegs (i : Instr) : List Reg8 :=
  match i with
  | .ldBB | .ldBC | .ldBD | .ldBE | .ldBH | .ldBL | .ldBIndHl | .ldBA | .ldBD8 _ | .incB | .decB | .rlcB | .rrcB
    | .rlB | .rrB | .slaB | .sraB | .swapB | .srlB | .res0B | .res1B | .res2B | .res3B | .res4B | .res5B |
    .res6B | .res7B | .set0B | .set1B | .set2B | .set3B | .set4B | .set5B | .set6B | .set7B => [.b]
  | .ldCB | .ldCC | .ldCD | .ldCE | .ldCH | .ldCL | .ldCIndHl | .ldCA | .ldCD8 _ | .incC | .decC | .rlcC | .rrcC
    | .rlC | .rrC | .slaC | .sraC | .swapC | .srlC | .res0C | .res1C | .res2C | .res3C | .res4C | .res5C |
    .res6C | .res7C | .set0C | .set1C | .set2C | .set3C | .set4C | .set5C | .set6C | .set7C => [.c]
  | .ldDB | .ldDC | .ldDD | .ldDE | .ldDH | .ldDL | .ldDIndHl | .ldDA | .ldDD8 _ | .incD | .decD | .rlcD | .rrcD
    | .rlD | .rrD | .slaD | .sraD | .swapD | .srlD | .res0D | .res1D | .res2D | .res3D | .res4D | .res5D |
    .res6D | .res7D | .set0D | .set1D | .set2D | .set3D | .set4D | .set5D | .set6D | .set7D => [.d]
  | .ldEB | .ldEC | .ldED | .ldEE | .ldEH | .ldEL | .ldEIndHl | .ldEA | .ldED8 _ | .incE | .decE | .rlcE | .rrcE
    | .rlE | .rrE | .slaE | .sraE | .swapE | .srlE | .res0E | .res1E | .res2E | .res3E | .res4E | .res5E |
    .res6E | .res7E | .set0E | .set1E | .set2E | .set3E | .set4E | .set5E | .set6E | .set7E => [.e]
  | .ldHB | .ldHC | .ldHD | .ldHE | .ldHH | .ldHL | .ldHIndHl | .ldHA | .ldHD8 _ | .incH | .decH | .rlcH | .rrcH
    | .rlH | .rrH | .slaH | .sraH | .swapH | .srlH | .res0H | .res1H | .res2H | .res3H | .res4H | .res5H |
    .res6H | .res7H | .set0H | .set1H | .set2H | .set3H | .set4H | .set5H | .set6H | .set7H => [.h]
  | .ldLB | .ldLC | .ldLD | .ldLE | .ldLH | .ldLL | .ldLIndHl | .ldLA | .ldLD8 _ | .incL | .decL | .rlcL | .rrcL
    | .rlL | .rrL | .slaL | .sraL | .swapL | .srlL | .res0L | .res1L | .res2L | .res3L | .res4L | .res5L |
    .res6L | .res7L | .set0L | .set1L | .set2L | .set3L | .set4L | .set5L | .set6L | .set7L => [.l]
  | .ldAB | .ldAC | .ldAD | .ldAE | .ldAH | .ldAL | .ldAIndHl | .ldAA | .ldAD8 _ | .incA | .decA | .rlcA | .rrcA
    | .rlA | .rrA | .slaA | .sraA | .swapA | .srlA | .res0A | .res1A | .res2A | .res3A | .res4A | .res5A |
    .res6A | .res7A | .set0A | .set1A | .set2A | .set3A | .set4A | .set5A | .set6A | .set7A | .ldAIndBc |
    .ldAIndDe | .ldAIndA16 _ | .ldhAIndA8 _ | .ldAIndC | .rlca | .rrca | .rla | .rra | .daa | .cpl | .popAf |
    .addAB | .addAC | .addAD | .addAE | .addAH | .addAL | .addAIndHl | .addAA | .addAD8 _ | .adcAB | .adcAC |
    .adcAD | .adcAE | .adcAH | .adcAL | .adcAIndHl | .adcAA | .adcAD8 _ | .subB | .subC | .subD | .subE | .subH
    | .subL | .subIndHl | .subA | .subD8 _ | .sbcAB | .sbcAC | .sbcAD | .sbcAE | .sbcAH | .sbcAL | .sbcAIndHl |
    .sbcAA | .sbcAD8 _ | .andB | .andC | .andD | .andE | .andH | .andL | .andIndHl | .andA | .andD8 _ | .xorB |
    .xorC | .xorD | .xorE | .xorH | .xorL | .xorIndHl | .xorA | .xorD8 _ | .orB | .orC | .orD | .orE | .orH |
    .orL | .orIndHl | .orA | .orD8 _ => [.a]
  | .ldBcD16 _ | .incBc | .decBc | .popBc => [.b, .c]
  | .ldDeD16 _ | .incDe | .decDe | .popDe => [.d, .e]
  | .ldHlD16 _ | .incHl | .decHl | .popHl | .addHlBc | .addHlDe | .addHlHl | .addHlSp | .ldHlSpE8 _ |
    .ldIndHlIncA | .ldIndHlDecA => [.h, .l]
  | .ldAIndHlInc | .ldAIndHlDec => [.a, .h, .l]
  | .prefixCb op2 =>
    match R8.ofField (fieldZ op2) with
    | .reg r => if fieldX op2 = 1 then [] else [r]
    | .indHl => []
  | _ => []

/-- Whether an instruction may write F: the arithmetic and logic ones, the rotates and shifts, BIT, and POP AF
(10_state.md R24, R21). -/
def writesF (i : Instr) : Bool :=
  match i with
  | .addAB | .addAC | .addAD | .addAE | .addAH | .addAL | .addAIndHl | .addAA | .adcAB | .adcAC | .adcAD |
    .adcAE | .adcAH | .adcAL | .adcAIndHl | .adcAA | .subB | .subC | .subD | .subE | .subH | .subL | .subIndHl |
    .subA | .sbcAB | .sbcAC | .sbcAD | .sbcAE | .sbcAH | .sbcAL | .sbcAIndHl | .sbcAA | .andB | .andC | .andD |
    .andE | .andH | .andL | .andIndHl | .andA | .xorB | .xorC | .xorD | .xorE | .xorH | .xorL | .xorIndHl |
    .xorA | .orB | .orC | .orD | .orE | .orH | .orL | .orIndHl | .orA | .cpB | .cpC | .cpD | .cpE | .cpH | .cpL
    | .cpIndHl | .cpA | .addAD8 _ | .adcAD8 _ | .subD8 _ | .sbcAD8 _ | .andD8 _ | .xorD8 _ | .orD8 _ | .cpD8 _ |
    .incB | .decB | .incC | .decC | .incD | .decD | .incE | .decE | .incH | .decH | .incL | .decL | .incIndHl |
    .decIndHl | .incA | .decA | .daa | .cpl | .scf | .ccf | .addHlBc | .addHlDe | .addHlHl | .addHlSp | .addSpE8
    _ | .ldHlSpE8 _ | .rlca | .rrca | .rla | .rra | .popAf | .rlcB | .rlcC | .rlcD | .rlcE | .rlcH | .rlcL |
    .rlcIndHl | .rlcA | .rrcB | .rrcC | .rrcD | .rrcE | .rrcH | .rrcL | .rrcIndHl | .rrcA | .rlB | .rlC | .rlD |
    .rlE | .rlH | .rlL | .rlIndHl | .rlA | .rrB | .rrC | .rrD | .rrE | .rrH | .rrL | .rrIndHl | .rrA | .slaB |
    .slaC | .slaD | .slaE | .slaH | .slaL | .slaIndHl | .slaA | .sraB | .sraC | .sraD | .sraE | .sraH | .sraL |
    .sraIndHl | .sraA | .swapB | .swapC | .swapD | .swapE | .swapH | .swapL | .swapIndHl | .swapA | .srlB |
    .srlC | .srlD | .srlE | .srlH | .srlL | .srlIndHl | .srlA | .bit0B | .bit0C | .bit0D | .bit0E | .bit0H |
    .bit0L | .bit0IndHl | .bit0A | .bit1B | .bit1C | .bit1D | .bit1E | .bit1H | .bit1L | .bit1IndHl | .bit1A |
    .bit2B | .bit2C | .bit2D | .bit2E | .bit2H | .bit2L | .bit2IndHl | .bit2A | .bit3B | .bit3C | .bit3D |
    .bit3E | .bit3H | .bit3L | .bit3IndHl | .bit3A | .bit4B | .bit4C | .bit4D | .bit4E | .bit4H | .bit4L |
    .bit4IndHl | .bit4A | .bit5B | .bit5C | .bit5D | .bit5E | .bit5H | .bit5L | .bit5IndHl | .bit5A | .bit6B |
    .bit6C | .bit6D | .bit6E | .bit6H | .bit6L | .bit6IndHl | .bit6A | .bit7B | .bit7C | .bit7D | .bit7E |
    .bit7H | .bit7L | .bit7IndHl | .bit7A => true
  | .prefixCb op2 => decide (fieldX op2 < 2)
  | _ => false

/-- Whether an instruction may write SP (10_state.md R25). -/
def writesSp (i : Instr) : Bool :=
  match i with
  | .ldSpD16 _ | .ldSpHl | .addSpE8 _ | .incSp | .decSp | .pushBc | .pushDe | .pushHl | .pushAf | .callA16 _ |
    .rst00 | .rst08 | .rst10 | .rst18 | .rst20 | .rst28 | .rst30 | .rst38 | .callNzA16 _ | .callZA16 _ |
    .callNcA16 _ | .callCA16 _ | .popBc | .popDe | .popHl | .popAf | .ret | .reti | .retNz | .retZ | .retNc |
    .retC => true
  | _ => false

/-- Whether an instruction may transfer control: every other one leaves the pc after its own bytes (10_state.md R26,
45_control.md R241). -/
def transfersControl (i : Instr) : Bool :=
  match i with
  | .jpA16 _ | .jpHl | .jrE8 _ | .callA16 _ | .ret | .reti | .jpNzA16 _ | .jpZA16 _ | .jpNcA16 _ | .jpCA16 _ |
    .callNzA16 _ | .callZA16 _ | .callNcA16 _ | .callCA16 _ | .retNz | .retZ | .retNc | .retC | .jrNzE8 _ |
    .jrZE8 _ | .jrNcE8 _ | .jrCE8 _ | .rst00 | .rst08 | .rst10 | .rst18 | .rst20 | .rst28 | .rst30 | .rst38 => true
  | _ => false

end Sys2Proof.Machine
end

