-- ==== Sys2Proof/Certificates/Slice0/Obligations.lean ====
section
/-! DEFINITION. The statements for the provers. `exec i s` runs instruction `i` from the state `s` whose pc already stands
after the instruction's bytes (30_encoding.md R91, log entry 11). A bus access that ends the run leaves its record in
`outcome` of a next state (60_exceptions.md R301, log entry 12). -/

open Sys2Proof Sys2Proof.Machine

/-! ## Encoding -/

/-- For every well-formed instruction, with every operand value, decoding its bytes gives it back and leaves the bytes
after it (30_encoding.md R90, R92, R98, R100). -/
def Obligations.EncodeThenDecodeGivesTheInstruction : Prop :=
  ∀ (i : Instr) (rest : List Byte), i.wellFormed = true → decode (encode i ++ rest) = .ok (i, rest)

/-- Whatever decodes is well formed and is the encoding of what it decodes to: no two byte sequences share an instruction
and no bit is dropped. -/
def Obligations.DecodeThenEncodeGivesTheBytes : Prop :=
  ∀ (bytes rest : List Byte) (i : Instr),
    decode bytes = .ok (i, rest) → i.wellFormed = true ∧ encode i ++ rest = bytes

/-- The primary map in fields (R98) and the prefixed map (R99): which instruction the opcode byte with the fields x, y, z
is, `b1` and `b2` being the bytes after it. -/
def Obligations.OpcodeFieldsSelectTheInstruction : Prop :=
  ∀ (y z : Oct) (b1 b2 : Byte),
    let at_ (x : Nat) (y z : Oct) := decodeAt (BitVec.ofNat 8 (64 * x + 8 * y.val + z.val)) b1 b2
    let cb (x : Nat) (y z : Oct) := decodeAt 0xCB (BitVec.ofNat 8 (64 * x + 8 * y.val + z.val)) b2
    let d16 := BitVec.ofNat 16 (256 * b2.toNat + b1.toNat)
    [at_ 0 .i0 .i0, at_ 0 .i1 .i0, at_ 0 .i2 .i0, at_ 0 .i3 .i0, at_ 0 .i4 .i0, at_ 0 .i5 .i0, at_ 0 .i6 .i0, at_ 0 .i7 .i0] =
      [.nop, .ldIndA16Sp d16, .stop b1, .jrE8 b1, .jrNzE8 b1, .jrZE8 b1, .jrNcE8 b1, .jrCE8 b1] ∧
    [at_ 0 .i0 .i1, at_ 0 .i1 .i1, at_ 0 .i2 .i1, at_ 0 .i3 .i1, at_ 0 .i4 .i1, at_ 0 .i5 .i1, at_ 0 .i6 .i1, at_ 0 .i7 .i1] =
      [.ldBcD16 d16, .addHlBc, .ldDeD16 d16, .addHlDe, .ldHlD16 d16, .addHlHl, .ldSpD16 d16, .addHlSp] ∧
    [at_ 0 .i0 .i2, at_ 0 .i1 .i2, at_ 0 .i2 .i2, at_ 0 .i3 .i2, at_ 0 .i4 .i2, at_ 0 .i5 .i2, at_ 0 .i6 .i2, at_ 0 .i7 .i2] =
      [.ldIndBcA, .ldAIndBc, .ldIndDeA, .ldAIndDe, .ldIndHlIncA, .ldAIndHlInc, .ldIndHlDecA, .ldAIndHlDec] ∧
    [at_ 0 .i0 .i3, at_ 0 .i1 .i3, at_ 0 .i2 .i3, at_ 0 .i3 .i3, at_ 0 .i4 .i3, at_ 0 .i5 .i3, at_ 0 .i6 .i3, at_ 0 .i7 .i3] =
      [.incBc, .decBc, .incDe, .decDe, .incHl, .decHl, .incSp, .decSp] ∧
    at_ 0 y .i4 = Instr.ofInc (R8.ofField y) ∧ at_ 0 y .i5 = Instr.ofDec (R8.ofField y) ∧
    at_ 0 y .i6 = Instr.ofLdImm (R8.ofField y) b1 ∧
    [at_ 0 .i0 .i7, at_ 0 .i1 .i7, at_ 0 .i2 .i7, at_ 0 .i3 .i7, at_ 0 .i4 .i7, at_ 0 .i5 .i7, at_ 0 .i6 .i7, at_ 0 .i7 .i7] =
      [.rlca, .rrca, .rla, .rra, .daa, .cpl, .scf, .ccf] ∧
    at_ 1 y z = (if y = .i6 ∧ z = .i6 then .halt else Instr.ofLd (R8.ofField y) (R8.ofField z)) ∧
    at_ 2 y z = Instr.ofAlu (AluOp.ofField y) (R8.ofField z) ∧
    [at_ 3 .i0 .i0, at_ 3 .i1 .i0, at_ 3 .i2 .i0, at_ 3 .i3 .i0, at_ 3 .i4 .i0, at_ 3 .i5 .i0, at_ 3 .i6 .i0, at_ 3 .i7 .i0] =
      [.retNz, .retZ, .retNc, .retC, .ldhIndA8A b1, .addSpE8 b1, .ldhAIndA8 b1, .ldHlSpE8 b1] ∧
    [at_ 3 .i0 .i1, at_ 3 .i1 .i1, at_ 3 .i2 .i1, at_ 3 .i3 .i1, at_ 3 .i4 .i1, at_ 3 .i5 .i1, at_ 3 .i6 .i1, at_ 3 .i7 .i1] =
      [.popBc, .ret, .popDe, .reti, .popHl, .jpHl, .popAf, .ldSpHl] ∧
    [at_ 3 .i0 .i2, at_ 3 .i1 .i2, at_ 3 .i2 .i2, at_ 3 .i3 .i2, at_ 3 .i4 .i2, at_ 3 .i5 .i2, at_ 3 .i6 .i2, at_ 3 .i7 .i2] =
      [.jpNzA16 d16, .jpZA16 d16, .jpNcA16 d16, .jpCA16 d16, .ldIndCA, .ldIndA16A d16, .ldAIndC, .ldAIndA16 d16] ∧
    [at_ 3 .i0 .i3, at_ 3 .i2 .i3, at_ 3 .i3 .i3, at_ 3 .i4 .i3, at_ 3 .i5 .i3, at_ 3 .i6 .i3, at_ 3 .i7 .i3] =
      [.jpA16 d16, .undefinedD3, .undefinedDB, .undefinedE3, .undefinedEB, .di, .ei] ∧
    [at_ 3 .i0 .i4, at_ 3 .i1 .i4, at_ 3 .i2 .i4, at_ 3 .i3 .i4, at_ 3 .i4 .i4, at_ 3 .i5 .i4, at_ 3 .i6 .i4, at_ 3 .i7 .i4] =
      [.callNzA16 d16, .callZA16 d16, .callNcA16 d16, .callCA16 d16, .undefinedE4, .undefinedEC, .undefinedF4,
        .undefinedFC] ∧
    [at_ 3 .i0 .i5, at_ 3 .i1 .i5, at_ 3 .i2 .i5, at_ 3 .i3 .i5, at_ 3 .i4 .i5, at_ 3 .i5 .i5, at_ 3 .i6 .i5, at_ 3 .i7 .i5] =
      [.pushBc, .callA16 d16, .pushDe, .undefinedDD, .pushHl, .undefinedED, .pushAf, .undefinedFD] ∧
    at_ 3 y .i6 = Instr.ofAluImm (AluOp.ofField y) b1 ∧ at_ 3 y .i7 = Instr.ofRst y ∧
    cb 0 y z = Instr.ofShift (ShiftOp.ofField y) (R8.ofField z) ∧ cb 1 y z = Instr.ofBit y (R8.ofField z) ∧
    cb 2 y z = Instr.ofRes y (R8.ofField z) ∧ cb 3 y z = Instr.ofSet y (R8.ofField z)

/-- A few words written out bit by bit from the encodings of R98 and R99, one or more of each family. -/
def Obligations.WordsOfEachFamilyDecode : Prop :=
  ∀ p ∈ ([([0b01010001], .ldDC), ([0b01111110], .ldAIndHl), ([0b00110110, 0x99], .ldIndHlD8 0x99),
      ([0b11101010, 0x34, 0x12], .ldIndA16A 0x1234), ([0b00100010], .ldIndHlIncA), ([0b11110000, 0x44], .ldhAIndA8 0x44),
      ([0b00110001, 0xFE, 0xFF], .ldSpD16 0xFFFE), ([0b00001000, 0x00, 0xC0], .ldIndA16Sp 0xC000),
      ([0b11110101], .pushAf), ([0b11010001], .popDe), ([0b10001110], .adcAIndHl), ([0b11111110, 0x2F], .cpD8 0x2F),
      ([0b00101100], .incL), ([0b00110101], .decIndHl), ([0b00100111], .daa), ([0b00101001], .addHlHl),
      ([0b11101000, 0xFE], .addSpE8 0xFE), ([0b00011011], .decDe), ([0b00011111], .rra),
      ([0b11001011, 0b00110111], .swapA), ([0b11001011, 0b01111100], .bit7H), ([0b11001011, 0b10011110], .res3IndHl),
      ([0b11001011, 0b11001011], .set1E), ([0b00100000, 0xFB], .jrNzE8 0xFB), ([0b11000011, 0x50, 0x01], .jpA16 0x0150),
      ([0b11010100, 0x00, 0x02], .callNcA16 0x0200), ([0b11001000], .retZ), ([0b11101111], .rst28), ([0b11011001], .reti),
      ([0b01110110], .halt), ([0b00010000, 0x00], .stop 0x00), ([0b11111011], .ei), ([0b11101101], .undefinedED)] :
      List (List Byte × Instr)),
    decode p.1 = .ok (p.2, [])

/-! ## Fetching and one tick -/

/-- R91: the bytes of the instruction stream are read at the pc in order and the pc moves past each; a byte that cannot be
read ends the run there, the pc at its address. At most three bytes, an instruction's longest length. -/
def Obligations.FetchReadsSuccessiveBytes : Prop :=
  ∀ (s : State) (bytes : List Byte), bytes.length ≤ 3 →
    (∀ (k : Nat) (h : k < bytes.length), busPeek true s (s.pc + BitVec.ofNat 16 k) = some bytes[k]) →
    let after := { s with
      pc := s.pc + BitVec.ofNat 16 bytes.length
      joypadDraws := s.joypadDraws +
        if (List.range bytes.length).any (fun k => decide (s.pc + BitVec.ofNat 16 k = 0xFF00)) then 1 else 0 }
    fetchBytes bytes.length s = .ok bytes after ∧
    (bytes.length < 3 → busPeek true s (s.pc + BitVec.ofNat 16 bytes.length) = none →
      ∀ n, bytes.length < n → fetchBytes n s =
        .stop (invalidAt (s.pc + BitVec.ofNat 16 bytes.length) .read after))

/-- When the bytes at the pc decode to `i`, a tick at a dispatch point with no interrupt to take is the run of `i` from the
state after their fetch, then the commit of the enable latch if it was set before `i` and still is, then the renderer, the
timer and the accounting; a run that ends in `i` ends the tick there (R340, R341, R301). -/
def Obligations.StepRunsTheDecodedInstruction : Prop :=
  ∀ (s u : State) (op : Byte) (rest : List Byte) (i : Instr),
    let w := wakeUp (hostGap s)
    s.outcome = .running → atDispatchPoint w = true → interruptSelect w = none →
    fetchBytes (lengthOf op) w = .ok (op :: rest) u → decode (op :: rest) = .ok (i, []) →
    step s =
      match exec i u with
      | .next t =>
        if t.outcome = .running then
          .next (accounting (deviceStep
            (if w.eiPending = true ∧ t.eiPending = true then { t with ime := true, eiPending := false } else t)))
        else .next t
      | r => r

/-- Steps 4 and 5 of R340: the renderer steps first, then the timer; VBlank, LCD-Status and Timer are ORed into IF bits 0, 1
and 2; the frame bit is the VBlank signal (R342, R352, R361). -/
def Obligations.DevicesStepAndRaiseTheirInterrupts : Prop :=
  ∀ s : State,
    let r := rendererStep s
    let t := timerAdvance s.params.timerCyclesPerStep s.timer
    deviceStep s = { s with
      ppu := r.1
      timer := t.1
      frameBit := r.2.vb
      ifReg := s.ifReg ||| (if r.2.vb then 0x01 else 0) ||| (if r.2.st then 0x02 else 0) ||| (if t.2 then 0x04 else 0) }

/-- R31, R340: a tick with `busy` above 0 changes nothing of the CPU, counts `busy` down and `clock` up, and steps the
devices. The host's joypad request in the gap before the tick is the model's list of moves (log entry 6). -/
def Obligations.BusyTickOnlyCountsAndStepsDevices : Prop :=
  ∀ s : State, s.outcome = .running → s.halted = false → s.stopped = false → 0 < s.busy →
    let r := rendererStep s
    let t := timerAdvance s.params.timerCyclesPerStep s.timer
    step s = .next { s with
      busy := s.busy - 1
      clock := s.clock + 1
      ppu := r.1
      timer := t.1
      joypadMoves := s.joypadMoves.tail
      frameBit := r.2.vb
      ifReg := s.ifReg ||| (if s.joypadMoves.head? = some true then 0x10 else 0) ||| (if r.2.vb then 0x01 else 0) |||
        (if r.2.st then 0x02 else 0) ||| (if t.2 then 0x04 else 0) }

/-- R251, R252, R323: a halted CPU dispatches nothing and counts nothing while no enabled interrupt is pending, whatever IME
is, and the devices step; one that is pending and enabled at the start of a tick ends the halt, and with `busy` at 1, as HALT
leaves it, that tick dispatches nothing and brings `busy` to 0. `before` is the state after the host's move in the gap
before the tick (log entry 6). -/
def Obligations.HaltedCpuWaitsForAnEnabledInterrupt : Prop :=
  ∀ s : State, s.outcome = .running → s.halted = true → s.stopped = false →
    let before := hostGap s
    let p := before.ie.toNat &&& before.ifReg.toNat &&& 0x1F
    let r := rendererStep s
    let t := timerAdvance s.params.timerCyclesPerStep s.timer
    let devices := { before with
      ppu := r.1
      timer := t.1
      frameBit := r.2.vb
      ifReg := before.ifReg ||| (if r.2.vb then 0x01 else 0) ||| (if r.2.st then 0x02 else 0) |||
        (if t.2 then 0x04 else 0) }
    (p = 0 → step s = .next devices) ∧
    (p ≠ 0 → s.busy = 1 → step s = .next { devices with halted := false, busy := 0, clock := s.clock + 1 })

/-- R301: a fault or refusal inside a tick ends the tick there: the latch is not committed, the renderer does not step, the
divider does not count (a store before the fault may have cleared it), `busy` is not set and `clock` does not advance, and
the frame bit is false. R32, R300: once a run has ended no tick gives a next state;
the model answers the record (log entry 8). -/
def Obligations.FaultEndsTheTickAndTheRun : Prop :=
  (∀ s t : State, s.outcome = .running → step s = .next t → t.outcome ≠ .running →
    t.ime = s.ime ∧ t.eiPending = s.eiPending ∧ t.busy = s.busy ∧ t.clock = s.clock ∧ t.ppu.mode = s.ppu.mode ∧
      t.ppu.modeClock = s.ppu.modeClock ∧ t.ppu.line = s.ppu.line ∧ t.ppu.framebuffer = s.ppu.framebuffer ∧
      (t.timer.divCounter = s.timer.divCounter ∨ t.timer.divCounter = 0) ∧ t.frameBit = false) ∧
  (∀ (s : State) (f : Fault), s.outcome = .faulted f → step s = .fault f) ∧
  (∀ (s : State) (r : Refusal), s.outcome = .refused r → step s = .refused r)

/-! ## Interrupts -/

/-- R320: with IME set and some source pending and enabled, the source of the lowest set bit is chosen; else none. -/
def Obligations.InterruptSelectionTakesTheLowestBit : Prop :=
  ∀ s : State,
    let p := s.ie.toNat &&& s.ifReg.toNat &&& 0x1F
    (interruptSelect s = none ↔ s.ime = false ∨ p = 0) ∧
    (∀ n : IntSource, interruptSelect s = some n ↔
      s.ime = true ∧ p.testBit n.index = true ∧ ∀ m < n.index, p.testBit m = false)

/-- R321, R322, R326: a tick that dispatches the source n pushes the pc, high byte first, sets the pc to 0x40 + 8 n, clears
IME, the latch and IF bit n only, costs 5 ticks and runs no instruction; a push write that faults ends the run there. -/
def Obligations.InterruptTickPushesPcAndVectors : Prop :=
  ∀ (s : State) (n : IntSource),
    let w := wakeUp (hostGap s)
    s.outcome = .running → atDispatchPoint w = true → interruptSelect w = some n →
    (∀ t1 t2 : State,
      busWrite (w.sp - 1) (BitVec.ofNat 8 (w.pc.toNat / 256)) { w with sp := w.sp - 1 } = .ok () t1 →
      busWrite (w.sp - 2) (BitVec.ofNat 8 w.pc.toNat) { t1 with sp := w.sp - 2 } = .ok () t2 →
      step s = .next (accounting (deviceStep { t2 with
        pc := BitVec.ofNat 16 (0x40 + 8 * n.index)
        ime := false
        eiPending := false
        ifReg := t2.ifReg &&& ~~~BitVec.ofNat 5 (2 ^ n.index)
        busy := 5 }))) ∧
    (∀ t1 : State,
      busWrite (w.sp - 1) (BitVec.ofNat 8 (w.pc.toNat / 256)) { w with sp := w.sp - 1 } = .stop t1 → step s = .next t1) ∧
    (∀ t1 t2 : State,
      busWrite (w.sp - 1) (BitVec.ofNat 8 (w.pc.toNat / 256)) { w with sp := w.sp - 1 } = .ok () t1 →
      busWrite (w.sp - 2) (BitVec.ofNat 8 w.pc.toNat) { t1 with sp := w.sp - 2 } = .stop t2 → step s = .next t2)

/-- R28: in any tick IME rises only by the commit of the latch, or by RETI under `RETI_MODE = Immediate`, and falls only by
DI or by an interrupt dispatch. -/
def Obligations.ImeChangesOnlyByLatchRetiDiOrDispatch : Prop :=
  ∀ s t : State, step s = .next t →
    let w := wakeUp (hostGap s)
    (s.ime = false → t.ime = true →
      s.eiPending = true ∨ (s.params.retiMode = .immediate ∧ busPeek true w s.pc = some 0xD9)) ∧
    (s.ime = true → t.ime = false → busPeek true w s.pc = some 0xF3 ∨ (interruptSelect w).isSome = true)

/-! ## Rules of the whole machine -/

/-- An instruction changes no 8-bit register but its destinations, F only where it is one that writes flags, SP only where
it is one that moves SP, and leaves the pc after its own bytes unless it is a control transfer (the lists are
`destRegs`, `writesF`, `writesSp`, `transfersControl`). -/
def Obligations.InstructionsKeepTheOtherCpuRegisters : Prop :=
  ∀ (i : Instr) (s t : State), exec i s = .next t →
    (∀ r : Reg8, r ∉ destRegs i → t.get8 r = s.get8 r) ∧ (writesF i = false → t.regs.f = s.regs.f) ∧
      (writesSp i = false → t.sp = s.sp) ∧ (transfersControl i = false → t.pc = s.pc)

/-- R27 to R29: `halted` is written only by HALT, `stopped` only by STOP, IME only by DI and by RETI under
`RETI_MODE = Immediate`, the latch only by EI, DI and RETI. -/
def Obligations.InstructionsKeepTheOtherControlState : Prop :=
  ∀ (i : Instr) (s t : State), exec i s = .next t →
    (i ≠ .halt → t.halted = s.halted) ∧ ((∀ b, i ≠ .stop b) → t.stopped = s.stopped) ∧
      (i ≠ .di → (i ≠ .reti ∨ s.params.retiMode = .delayed) → t.ime = s.ime) ∧
      (i ≠ .di → i ≠ .ei → i ≠ .reti → t.eiPending = s.eiPending)

/-- R56, R62, R72: the only bytes of RAM an instruction changes are those at the addresses it stores to
(`storeAddresses`, computed from the state it runs in) where the store reaches RAM, and OAM where it stores to 0xFF46. Every
RAM address outside these reads as before. -/
def Obligations.InstructionsChangeOnlyTheRamTheyStoreTo : Prop :=
  ∀ (i : Instr) (s t : State), exec i s = .next t →
    (∀ k, t.ram.read k ≠ s.ram.read k →
      (∃ a ∈ storeAddresses i s, plainRam s a = true ∧ ramKey a = k) ∨
        (0xFF46 ∈ storeAddresses i s ∧ 0xFE00 ≤ k ∧ k < 0xFEA0)) ∧
    (∀ b : Word, plainRam s b = true → (∀ a ∈ storeAddresses i s, plainRam s a = true → ramKey a ≠ ramKey b) →
      (0xFF46 ∈ storeAddresses i s → region b ≠ .oam) → busPeek true t b = busPeek true s b)

/-- R52, R73: an instruction that stores nothing leaves RAM, the cartridge, the overlay, IF, IE, the timer and the renderer
as they were, and every address reads as before but 0xFF00, whose value is drawn anew. -/
def Obligations.InstructionsThatStoreNothingKeepTheBus : Prop :=
  ∀ (i : Instr) (s t : State), exec i s = .next t → storeAddresses i s = [] →
    (t.ram = s.ram ∧ t.cart = s.cart ∧ t.bootDisabled = s.bootDisabled ∧ t.ifReg = s.ifReg ∧ t.ie = s.ie ∧
      t.timer = s.timer ∧ t.ppu = s.ppu ∧ t.params = s.params) ∧
    ∀ a : Word, a ≠ 0xFF00 → busPeek true t a = busPeek true s a

/-- R77, R30, R39: no instruction moves the renderer's mode, mode counter, scanline or framebuffer, the clock, the host's
moves, the frame bit or a parameter; the devices step only between instructions. An instruction ends the run or leaves
the outcome, and costs at most 6 ticks (92_eei_decisions.md D37). -/
def Obligations.InstructionsNeverStepTheDevices : Prop :=
  ∀ (i : Instr) (s : State), ∃ t, exec i s = .next t ∧
    t.ppu.mode = s.ppu.mode ∧ t.ppu.modeClock = s.ppu.modeClock ∧ t.ppu.line = s.ppu.line ∧
    t.ppu.framebuffer = s.ppu.framebuffer ∧ t.clock = s.clock ∧ t.joypadMoves = s.joypadMoves ∧
    t.frameBit = s.frameBit ∧ t.params = s.params ∧
    ((t.outcome = s.outcome ∧ 1 ≤ t.busy ∧ t.busy ≤ 6) ∨ (t.outcome ≠ .running ∧ t.busy = s.busy))

/-- R37: the overlay once disabled stays disabled. R39 and log entry 2: no tick changes a parameter; log entry 3: nor the
cartridge's variant or ROM image. -/
def Obligations.OverlayNeverReturnsAndParametersStay : Prop :=
  ∀ s t : State, step s = .next t →
    (s.bootDisabled = true → t.bootDisabled = true) ∧ t.params = s.params ∧ t.cart.variant = s.cart.variant ∧
      t.cart.rom = s.cart.rom

/-- The invariant (`State.Inv`): F's low nibble is zero (R21), RAM in canonical form with entries at RAM addresses only (R36,
R56), the scanline within 0 to 153 and VBlank exactly on the lines from 144 (R35, R360), the mode counter below its
budget, the images in canonical form, `busy` at most 6 (D37). Every tick keeps it. -/
def Obligations.EveryTickKeepsTheInvariant : Prop :=
  ∀ s t : State, s.Inv → step s = .next t → t.Inv

/-- The invariant holds at `State.reset`, and at power-on with any parameters, cartridge and RAM whose byte lists are in
canonical form. -/
def Obligations.InvariantAtPowerOn : Prop :=
  State.reset.Inv ∧
  ∀ (params : Params) (cart : Cart) (ram : Memory),
    RamGood ram → cart.rom.wf = true → params.bootImage.wf = true → (State.powerOn params cart ram).Inv

/-- R400: the state after power-on with `BOOT_MODE = Overlay(BOOT_IMAGE)`; the framebuffer is unspecified and RAM is what
`RAM_INIT` gives. -/
def Obligations.PowerOnStateIsAsTheSpecLists : Prop :=
  ∀ (params : Params) (cart : Cart) (ramInit : Memory),
    let s := State.powerOn params cart ramInit
    (s.regs.a = 0 ∧ s.regs.f = 0 ∧ s.regs.b = 0 ∧ s.regs.c = 0 ∧ s.regs.d = 0 ∧ s.regs.e = 0 ∧ s.regs.h = 0 ∧
      s.regs.l = 0) ∧
    s.sp = 0x0000 ∧ s.pc = 0x0000 ∧ s.halted = false ∧ s.stopped = false ∧ s.ime = false ∧ s.eiPending = false ∧
    s.clock = 0 ∧ s.busy = 0 ∧ s.outcome = .running ∧ s.ifReg = 0 ∧ s.ie = 0x00 ∧
    (s.timer.divCounter = 0 ∧ s.timer.tima = 0 ∧ s.timer.tma = 0 ∧ s.timer.tac = 0) ∧
    (s.ppu.mode = .oamScan ∧ s.ppu.modeClock = 0 ∧ s.ppu.line = 0 ∧ s.ppu.lcdc = 0 ∧ s.ppu.statSel = 0 ∧
      s.ppu.scy = 0 ∧ s.ppu.scx = 0 ∧ s.ppu.lyc = 0 ∧ s.ppu.dma = 0 ∧ s.ppu.bgp = 0 ∧ s.ppu.obp0 = 0 ∧
      s.ppu.obp1 = 0 ∧ s.ppu.wy = 0 ∧ s.ppu.wx = 0) ∧
    s.ram = ramInit ∧ s.bootDisabled = false ∧ s.cart = cart ∧
    busPeek true s s.pc = some (params.bootImage.read 0)

/-! ## The bus -/

/-- R56: a read of VRAM, WRAM, its mirror, OAM or HRAM that the gate lets through gives the array's byte and changes nothing;
a store changes that byte and touches no other state; the mirror at 0xE000 + k and 0xC000 + k are the same byte. -/
def Obligations.RamStoreChangesOneByte : Prop :=
  (∀ (s : State) (a : Word) (v : Byte), s.ram.wf = true → plainRam s a = true →
    busRead a s = .ok (s.ram.read (ramKey a)) s ∧
    ∃ t, busWrite a v s = .ok () t ∧ t = { s with ram := t.ram } ∧
      (∀ b : Word, busPeek true t b =
        if plainRam s b = true ∧ ramKey b = ramKey a then some v else busPeek true s b)) ∧
  (∀ a b : Word, 0xC000 ≤ a.toNat → a.toNat ≤ 0xDDFF → b.toNat = a.toNat + 0x2000 → ramKey b = ramKey a)

/-- R62: with `VRAM_OAM_LOCK` a CPU access to VRAM in PixelTransfer, or to OAM in OamScan or PixelTransfer, reads 0xFF and
its write is discarded; otherwise a read gives the array's byte. The DMA copy's read (`busPeek false`) is not gated. -/
def Obligations.GateClosesVramAndOam : Prop :=
  ∀ (s : State) (a : Word),
    let vram := 0x8000 ≤ a.toNat ∧ a.toNat ≤ 0x9FFF
    let oam := 0xFE00 ≤ a.toNat ∧ a.toNat ≤ 0xFE9F
    let closed := s.params.vramOamLock = true ∧
      ((vram ∧ s.ppu.mode = .pixelTransfer) ∨ (oam ∧ (s.ppu.mode = .oamScan ∨ s.ppu.mode = .pixelTransfer)))
    (closed → busPeek true s a = some 0xFF ∧ ∀ v, busWrite a v s = .ok () s) ∧
    ((vram ∨ oam) → ¬ closed → busPeek true s a = some (s.ram.read a.toNat) ∧
      ∀ v, busWrite a v s = .ok () { s with ram := s.ram.write a.toNat v }) ∧
    ((vram ∨ oam) → busPeek false s a = some (s.ram.read a.toNat))

/-- R54, R55, R51: the overlay replaces reads of 0x0000 to 0x00FF and no write; a no-banking cartridge gives its ROM image's
byte and discards writes; an access its logic refuses is an invalid access. -/
def Obligations.OverlayAndCartridgeAccesses : Prop :=
  (∀ (s : State) (a : Word), a.toNat ≤ 0x00FF → s.bootDisabled = false →
    busPeek true s a = some (s.params.bootImage.read a.toNat)) ∧
  (∀ (s : State) (a : Word), a.toNat ≤ 0x7FFF → (s.bootDisabled = true ∨ 0x00FF < a.toNat) →
    s.cart.variant = .noBanking → busPeek true s a = some (s.cart.rom.read a.toNat)) ∧
  (∀ (s : State) (a : Word) (v : Byte), a.toNat ≤ 0x7FFF → s.cart.variant = .noBanking → busWrite a v s = .ok () s) ∧
  (∀ (s : State) (a : Word) (v : Byte), 0xA000 ≤ a.toNat ∧ a.toNat ≤ 0xBFFF ∨ a.toNat ≤ 0x7FFF →
    ((s.bootDisabled = true ∨ 0x00FF < a.toNat) → busRead a s =
      match cartRead s.cart a.toNat with
      | some b => .ok b s
      | none => .stop (invalidAt a .read s)) ∧
    busWrite a v s =
      match cartWrite s.cart a.toNat v with
      | some c => .ok () { s with cart := c }
      | none => .stop (invalidAt a .write s))

/-- R67: the unmapped addresses, and what an access there does under each `UNMAPPED_POLICY`. -/
def Obligations.UnmappedAddressesFollowThePolicy : Prop :=
  ∀ (s : State) (a : Word) (v : Byte),
    (0xFEA0 ≤ a.toNat ∧ a.toNat ≤ 0xFEFF) ∨ (0xFF01 ≤ a.toNat ∧ a.toNat ≤ 0xFF03) ∨
      (0xFF08 ≤ a.toNat ∧ a.toNat ≤ 0xFF0E) ∨ (0xFF10 ≤ a.toNat ∧ a.toNat ≤ 0xFF3F) ∨
      (0xFF4C ≤ a.toNat ∧ a.toNat ≤ 0xFF4F) ∨ (0xFF51 ≤ a.toNat ∧ a.toNat ≤ 0xFF7F) →
    (s.params.unmappedPolicy = .sentinel → busRead a s = .ok 0xFF s ∧ busWrite a v s = .ok () s) ∧
    (s.params.unmappedPolicy = .fault →
      busRead a s = .stop (invalidAt a .read s) ∧ busWrite a v s = .stop (invalidAt a .write s))

/-- R63 to R66, R68, R69: what each I/O register reads as and what a write to it stores. A read of 0xFF00 is any byte (a free
value) and moves the model's own count of such reads (log entry 4), a write there changes no state; the DMA register's copy
is its own statement. -/
def Obligations.IoRegistersReadAndWrite : Prop :=
  ∀ (s : State) (v : Byte),
    (busRead 0xFF04 s = .ok (BitVec.ofNat 8 (s.timer.divCounter.toNat / 256)) s ∧ busRead 0xFF05 s = .ok s.timer.tima s ∧
      busRead 0xFF06 s = .ok s.timer.tma s ∧ busRead 0xFF07 s = .ok (0xF8 ||| s.timer.tac.setWidth 8) s ∧
      busRead 0xFF0F s = .ok (0xE0 ||| s.ifReg.setWidth 8) s ∧ busRead 0xFF40 s = .ok s.ppu.lcdc s ∧
      busRead 0xFF41 s = .ok (0x80 ||| (s.ppu.statSel.setWidth 8 <<< 3) |||
        (if s.ppu.line = s.ppu.lyc then 0x04 else 0) |||
        (match s.ppu.mode with | .hBlank => 0 | .vBlank => 1 | .oamScan => 2 | .pixelTransfer => 3)) s ∧
      busRead 0xFF42 s = .ok s.ppu.scy s ∧ busRead 0xFF43 s = .ok s.ppu.scx s ∧ busRead 0xFF44 s = .ok s.ppu.line s ∧
      busRead 0xFF45 s = .ok s.ppu.lyc s ∧ busRead 0xFF46 s = .ok s.ppu.dma s ∧ busRead 0xFF47 s = .ok s.ppu.bgp s ∧
      busRead 0xFF48 s = .ok s.ppu.obp0 s ∧ busRead 0xFF49 s = .ok s.ppu.obp1 s ∧ busRead 0xFF4A s = .ok s.ppu.wy s ∧
      busRead 0xFF4B s = .ok s.ppu.wx s ∧ busRead 0xFF50 s = .ok 0xFF s ∧ busRead 0xFFFF s = .ok s.ie s) ∧
    (∃ w, busRead 0xFF00 s = .ok w { s with joypadDraws := s.joypadDraws + 1 }) ∧ busWrite 0xFF00 v s = .ok () s ∧
    busWrite 0xFF04 v s = .ok () { s with timer := { s.timer with divCounter := 0 } } ∧
    busWrite 0xFF05 v s = .ok () { s with timer := { s.timer with tima := v } } ∧
    busWrite 0xFF06 v s = .ok () { s with timer := { s.timer with tma := v } } ∧
    busWrite 0xFF07 v s = .ok () { s with timer := { s.timer with tac := BitVec.ofNat 3 v.toNat } } ∧
    busWrite 0xFF0F v s = .ok () { s with ifReg := BitVec.ofNat 5 v.toNat } ∧
    busWrite 0xFF40 v s = .ok () { s with ppu := { s.ppu with lcdc := v } } ∧
    busWrite 0xFF41 v s = .ok () { s with ppu := { s.ppu with statSel := BitVec.ofNat 4 (v.toNat / 8) } } ∧
    busWrite 0xFF42 v s = .ok () { s with ppu := { s.ppu with scy := v } } ∧
    busWrite 0xFF43 v s = .ok () { s with ppu := { s.ppu with scx := v } } ∧ busWrite 0xFF44 v s = .ok () s ∧
    busWrite 0xFF45 v s = .ok () { s with ppu := { s.ppu with lyc := v } } ∧
    busWrite 0xFF47 v s = .ok () { s with ppu := { s.ppu with bgp := v } } ∧
    busWrite 0xFF48 v s = .ok () { s with ppu := { s.ppu with obp0 := v } } ∧
    busWrite 0xFF49 v s = .ok () { s with ppu := { s.ppu with obp1 := v } } ∧
    busWrite 0xFF4A v s = .ok () { s with ppu := { s.ppu with wy := v } } ∧
    busWrite 0xFF4B v s = .ok () { s with ppu := { s.ppu with wx := v } } ∧
    busWrite 0xFF50 v s = .ok () { s with bootDisabled := s.bootDisabled || decide (v ≠ 0) } ∧
    busWrite 0xFFFF v s = .ok () { s with ie := v }

/-- R72: a write of `page` to 0xFF46 stores it in DMA and copies the 160 bytes from `page << 8` into OAM inside the same
write, each read through the bus without the gate; the first source byte that cannot be read ends the run with the bytes
before it copied. `after` is the state the reads are made in. -/
def Obligations.DmaCopiesOneHundredSixtyBytes : Prop :=
  ∀ (s : State) (page : Byte) (src : Nat → Byte) (n : Nat), s.ram.wf = true → n ≤ 160 →
    let after := { s with ppu := { s.ppu with dma := page } }
    let addr (i : Nat) := BitVec.ofNat 16 (256 * page.toNat + i)
    (∀ i < n, busPeek false after (addr i) = some (src i)) →
    (n = 160 → ∃ t, busWrite 0xFF46 page s = .ok () t ∧
      t = { after with ram := t.ram, joypadDraws := t.joypadDraws } ∧ (∀ i < 160, t.ram.read (0xFE00 + i) = src i) ∧
      ∀ k, k < 0xFE00 ∨ 0xFEA0 ≤ k → t.ram.read k = s.ram.read k) ∧
    (n < 160 → busPeek false after (addr n) = none → ∃ t, busWrite 0xFF46 page s = .stop t ∧
      t = { after with ram := t.ram, joypadDraws := t.joypadDraws,
                       outcome := .faulted (.invalidAccess (addr n) .read) } ∧
      (∀ i < n, t.ram.read (0xFE00 + i) = src i) ∧
      ∀ k, k < 0xFE00 ∨ 0xFE00 + n ≤ k → t.ram.read k = s.ram.read k)

/-! ## The timer and the renderer -/

/-- R350, R351: k counts move the divider by k. A disabled timer leaves TIMA. An enabled one counts TIMA once per falling edge
of the selected divider bit (bit 9, 3, 5 or 7: every 1024, 16, 64 or 256 counts), and while those counts stay within a byte
there is no overflow. TMA and TAC never change. -/
def Obligations.TimerCountsFallingEdgesOfTheSelectedBit : Prop :=
  ∀ (k : Nat) (t : Timer),
    let r := timerAdvance k t
    let period := match t.tac.toNat % 4 with | 0 => 1024 | 1 => 16 | 2 => 64 | _ => 256
    let edges := (t.divCounter.toNat + k) / period - t.divCounter.toNat / period
    r.1.divCounter.toNat = (t.divCounter.toNat + k) % 65536 ∧ r.1.tma = t.tma ∧ r.1.tac = t.tac ∧
    (t.tac.toNat < 4 → r.1.tima = t.tima ∧ r.2 = false) ∧
    (4 ≤ t.tac.toNat → t.tima.toNat + edges ≤ 0xFF → r.1.tima.toNat = t.tima.toNat + edges ∧ r.2 = false)

/-- R350, R351, R352: the count that increments TIMA from 0xFF reloads it from TMA and is an overflow, and a step of the
devices with an overflow sets IF bit 2. -/
def Obligations.TimerOverflowReloadsAndInterrupts : Prop :=
  (∀ t : Timer,
    let period := match t.tac.toNat % 4 with | 0 => 1024 | 1 => 16 | 2 => 64 | _ => 256
    4 ≤ t.tac.toNat → t.tima = 0xFF → (t.divCounter.toNat + 1) % period = 0 →
      timerAdvance 1 t = ({ t with divCounter := t.divCounter + 1, tima := t.tma }, true)) ∧
  (∀ (j k : Nat) (t : Timer), (timerAdvance (j + k) t).2 =
    ((timerAdvance j t).2 || (timerAdvance k (timerAdvance j t).1).2)) ∧
  (∀ s : State, (timerAdvance s.params.timerCyclesPerStep s.timer).2 = true → (deviceStep s).ifReg.getLsbD 2 = true)

/-- R365, R360: from OamScan with the mode counter at 0, a visible line takes 80 + 172 + 204 = 456 renderer ticks; from line
0 the first VBlank signal comes at tick 65,664, VBlank's ten lines take 456 ticks each, and line 0 OamScan comes again at
tick 70,224. -/
def Obligations.RendererLineAndFrameLengths : Prop :=
  ∀ (ram : Memory) (p : Ppu), p.mode = .oamScan → p.modeClock = 0 →
    (p.line.toNat < 143 →
      (rendererAdvance ram 80 p).1.mode = .pixelTransfer ∧ (rendererAdvance ram 252 p).1.mode = .hBlank ∧
      (rendererAdvance ram 456 p).1.mode = .oamScan ∧ (rendererAdvance ram 456 p).1.modeClock = 0 ∧
      (rendererAdvance ram 456 p).1.line = p.line + 1 ∧ (rendererAdvance ram 456 p).2.vb = false) ∧
    (p.line = 0 →
      (rendererAdvance ram 65663 p).2.vb = false ∧ (rendererAdvance ram 65664 p).2.vb = true ∧
      (∀ k < 10, (rendererAdvance ram (65664 + 456 * k) p).1.mode = .vBlank ∧
        (rendererAdvance ram (65664 + 456 * k) p).1.line = BitVec.ofNat 8 (144 + k)) ∧
      (rendererAdvance ram 70224 p).1.mode = .oamScan ∧ (rendererAdvance ram 70224 p).1.line = 0 ∧
      (rendererAdvance ram 70224 p).1.modeClock = 0)

/-- R361, R342: at one renderer tick per step, a tick of a running machine gives the frame bit, and sets IF bit 0, exactly
when it moves line 143's HBlank into VBlank, whatever IE, IME and STAT are. -/
def Obligations.FrameBitMarksTheEntryOfVBlank : Prop :=
  ∀ s t : State, s.params.rendererTicksPerStep = 1 → s.params.lcdOffStopsRenderer = false → s.outcome = .running →
    step s = .next t → t.outcome = .running →
    (t.frameBit = true ↔ s.ppu.mode = .hBlank ∧ s.ppu.line = 143 ∧ 203 ≤ s.ppu.modeClock) ∧
    (t.frameBit = true → t.ppu.mode = .vBlank ∧ t.ppu.line = 144 ∧ t.ifReg.getLsbD 0 = true)

/-- R363: a renderer tick gives the LCD-Status signal exactly when it enters HBlank, VBlank or OamScan, or moves the line to
LYC, with that transition's select bit set; the signal sets IF bit 1. -/
def Obligations.LcdStatusSignalMarksSelectedTransitions : Prop :=
  (∀ (ram : Memory) (p : Ppu),
    let q := (rendererTick ram p).1
    ((rendererTick ram p).2.st = true ↔
      (q.mode = .hBlank ∧ p.mode ≠ .hBlank ∧ p.statSel.getLsbD 0 = true) ∨
      (q.mode = .vBlank ∧ p.mode ≠ .vBlank ∧ p.statSel.getLsbD 1 = true) ∨
      (q.mode = .oamScan ∧ p.mode ≠ .oamScan ∧ p.statSel.getLsbD 2 = true) ∨
      (q.line ≠ p.line ∧ q.line = p.lyc ∧ p.statSel.getLsbD 3 = true))) ∧
  (∀ s : State, (rendererStep s).2.st = true → (deviceStep s).ifReg.getLsbD 1 = true)

/-- R362, R364: leaving PixelTransfer renders the current line, and that row alone of the framebuffer changes; with
`LCD_OFF_STOPS_RENDERER` and LCDC bit 7 clear the renderer does not step; with the bit set it steps, from wherever it was
frozen; without the parameter LCDC does not matter. The row's contents are `RENDER_LINE`'s, a free value (log entry 5). -/
def Obligations.RenderingTouchesOneRowAndLcdOffFreezes : Prop :=
  (∀ (ram : Memory) (p : Ppu), rowsWf p.framebuffer = true →
    let q := (rendererTick ram p).1
    ∀ n : Nat, readRow q.framebuffer n =
      if n = p.line.toNat ∧ p.mode = .pixelTransfer ∧ 171 ≤ p.modeClock then
        Config.renderLine (renderView ram p) n else readRow p.framebuffer n) ∧
  (∀ s : State, s.params.lcdOffStopsRenderer = true → s.ppu.lcdc.getLsbD 7 = false →
    rendererStep s = (s.ppu, { vb := false, st := false })) ∧
  (∀ s : State, s.params.lcdOffStopsRenderer = false ∨ s.ppu.lcdc.getLsbD 7 = true →
    rendererStep s = rendererAdvance s.ram s.params.rendererTicksPerStep s.ppu)

/-! ## Loads and the stack -/

/-- R110, R113: LD r,r' and LD r,d8 write the destination and nothing else. -/
def Obligations.RegisterLoadsCopyTheirSource : Prop :=
  ∀ (s : State) (dst src : Reg8) (n : Byte) (i : Instr) (v : Byte) (cost : Nat),
    (i, v, cost) ∈ [(Instr.ofLd (.reg dst) (.reg src), s.get8 src, 1), (Instr.ofLdImm (.reg dst) n, n, 2)] →
    ∃ t, exec i s = .next t ∧ t.get8 dst = v ∧ (∀ q, q ≠ dst → t.get8 q = s.get8 q) ∧ t.regs.f = s.regs.f ∧
      t = { s with regs := t.regs, busy := cost }

/-- R111, R115, R117, R119, R121: the loads from memory read the byte at their address into their destination; a read that
faults ends the run with nothing written. -/
def Obligations.MemoryLoadsReadTheirAddress : Prop :=
  ∀ (s : State) (r : Reg8) (n : Byte) (nn : Word) (i : Instr) (dst : Reg8) (a : Word) (cost : Nat),
    (i, dst, a, cost) ∈ [(Instr.ofLd (.reg r) .indHl, r, s.hl, 2), (.ldAIndBc, .a, s.bc, 2), (.ldAIndDe, .a, s.de, 2),
      (.ldAIndA16 nn, .a, nn, 4), (.ldhAIndA8 n, .a, BitVec.ofNat 16 (0xFF00 + n.toNat), 3),
      (.ldAIndC, .a, BitVec.ofNat 16 (0xFF00 + s.regs.c.toNat), 2)] →
    (∀ v, busPeek true s a = some v → ∃ t, exec i s = .next t ∧ t.get8 dst = v ∧
      (∀ q, q ≠ dst → t.get8 q = s.get8 q) ∧ t.regs.f = s.regs.f ∧ OnlyRegs s t cost) ∧
    (busPeek true s a = none → exec i s = .next (invalidAt a .read s))

/-- R112, R114, R116, R118, R120, R122: the 8-bit stores write their byte to their address, through the bus with its side
effects; where the address is RAM that byte reads back and nothing else changes; a write that faults ends the run. -/
def Obligations.MemoryStoresWriteTheirAddress : Prop :=
  ∀ (s : State) (r : Reg8) (n : Byte) (nn : Word) (i : Instr) (v : Byte) (a : Word) (cost : Nat),
    (i, v, a, cost) ∈ [(Instr.ofLd .indHl (.reg r), s.get8 r, s.hl, 2), (.ldIndHlD8 n, n, s.hl, 3),
      (.ldIndBcA, s.regs.a, s.bc, 2), (.ldIndDeA, s.regs.a, s.de, 2), (.ldIndA16A nn, s.regs.a, nn, 4),
      (.ldhIndA8A n, s.regs.a, BitVec.ofNat 16 (0xFF00 + n.toNat), 3),
      (.ldIndCA, s.regs.a, BitVec.ofNat 16 (0xFF00 + s.regs.c.toNat), 2)] →
    (∀ t, busWrite a v s = .ok () t → exec i s = .next { t with busy := cost }) ∧
    (∀ t, busWrite a v s = .stop t → exec i s = .next t) ∧
    (s.ram.wf = true → plainRam s a = true → ∃ t, exec i s = .next t ∧ busPeek true t a = some v ∧
      t = { s with ram := t.ram, busy := cost })

/-- R123 to R126: the HL+ and HL- forms access HL, then move it by one; where the access faults HL is not moved. -/
def Obligations.HlIncrementLoadsMoveHlAfterTheAccess : Prop :=
  ∀ (s : State) (delta : Int) (ld st : Instr),
    (delta, ld, st) ∈ [((1 : Int), Instr.ldAIndHlInc, Instr.ldIndHlIncA), (-1, .ldAIndHlDec, .ldIndHlDecA)] →
    (∀ v, busPeek true s s.hl = some v → ∃ t, exec ld s = .next t ∧ t.regs.a = v ∧
      (t.hl.toNat : Int) = (s.hl.toNat + delta) % 65536 ∧ t.bc = s.bc ∧ t.de = s.de ∧ t.regs.f = s.regs.f ∧
      OnlyRegs s t 2) ∧
    (busPeek true s s.hl = none → exec ld s = .next (invalidAt s.hl .read s)) ∧
    (∀ u, busWrite s.hl s.regs.a s = .ok () u → ∃ t, exec st s = .next t ∧
      (t.hl.toNat : Int) = (s.hl.toNat + delta) % 65536 ∧ t.af = s.af ∧ t.bc = s.bc ∧ t.de = s.de ∧
      t = { u with regs := t.regs, busy := 2 }) ∧
    (∀ u, busWrite s.hl s.regs.a s = .stop u → exec st s = .next u)

/-- R22, R141, R142, R143: a pair is its two registers, the high one first; LD rr,d16 loads it, LD SP,HL copies it, and
LD (a16),SP stores SP low byte first through two bus writes, the first of which stays if the second faults. -/
def Obligations.SixteenBitLoads : Prop :=
  ∀ (s : State) (rr : Reg16) (nn : Word),
    (s.bc.toNat = 256 * s.regs.b.toNat + s.regs.c.toNat ∧ s.de.toNat = 256 * s.regs.d.toNat + s.regs.e.toNat ∧
      s.hl.toNat = 256 * s.regs.h.toNat + s.regs.l.toNat ∧ s.af.toNat = 256 * s.regs.a.toNat + s.regs.f.toNat) ∧
    (∃ t, exec (Instr.ofLd16 rr nn) s = .next t ∧ t.get16 rr = nn ∧ (∀ q, q ≠ rr → t.get16 q = s.get16 q) ∧
      t.af = s.af ∧ t = { s with regs := t.regs, sp := t.sp, busy := 3 }) ∧
    exec .ldSpHl s = .next { s with sp := s.hl, busy := 2 } ∧
    (∀ t1 t2, busWrite nn (BitVec.ofNat 8 s.sp.toNat) s = .ok () t1 →
      busWrite (nn + 1) (BitVec.ofNat 8 (s.sp.toNat / 256)) t1 = .ok () t2 →
      exec (.ldIndA16Sp nn) s = .next { t2 with busy := 5 }) ∧
    (∀ t1, busWrite nn (BitVec.ofNat 8 s.sp.toNat) s = .stop t1 → exec (.ldIndA16Sp nn) s = .next t1) ∧
    (∀ t1 t2, busWrite nn (BitVec.ofNat 8 s.sp.toNat) s = .ok () t1 →
      busWrite (nn + 1) (BitVec.ofNat 8 (s.sp.toNat / 256)) t1 = .stop t2 → exec (.ldIndA16Sp nn) s = .next t2)

/-- R140, R144: PUSH writes the high byte below SP, then the low byte below that, SP moved before each write; a write that
faults ends the run with the SP decrement kept. Where both addresses are RAM, the pair reads back little-endian at the new
SP, and a pop gives it back and restores SP. -/
def Obligations.PushStoresThePairBelowSp : Prop :=
  ∀ (s : State) (rr : RegStk),
    let v := s.getStk rr
    (∀ t1 t2, busWrite (s.sp - 1) (BitVec.ofNat 8 (v.toNat / 256)) { s with sp := s.sp - 1 } = .ok () t1 →
      busWrite (s.sp - 2) (BitVec.ofNat 8 v.toNat) { t1 with sp := s.sp - 2 } = .ok () t2 →
      exec (Instr.ofPush rr) s = .next { t2 with busy := 4 }) ∧
    (∀ t1, busWrite (s.sp - 1) (BitVec.ofNat 8 (v.toNat / 256)) { s with sp := s.sp - 1 } = .stop t1 →
      exec (Instr.ofPush rr) s = .next t1) ∧
    (∀ t1 t2, busWrite (s.sp - 1) (BitVec.ofNat 8 (v.toNat / 256)) { s with sp := s.sp - 1 } = .ok () t1 →
      busWrite (s.sp - 2) (BitVec.ofNat 8 v.toNat) { t1 with sp := s.sp - 2 } = .stop t2 →
      exec (Instr.ofPush rr) s = .next t2) ∧
    (s.ram.wf = true → plainRam s (s.sp - 1) = true → plainRam s (s.sp - 2) = true →
      ramKey (s.sp - 1) ≠ ramKey (s.sp - 2) →
      ∃ t, exec (Instr.ofPush rr) s = .next t ∧ t = { s with ram := t.ram, sp := s.sp - 2, busy := 4 } ∧
        busPeek true t (s.sp - 1) = some (BitVec.ofNat 8 (v.toNat / 256)) ∧
        busPeek true t (s.sp - 2) = some (BitVec.ofNat 8 v.toNat) ∧ pop16 t = .ok v { t with sp := s.sp })

/-- R140, R145, R146: POP reads the low byte at SP and the high byte above it, SP moved after each read, into the pair; through
AF the low nibble of F is zero. A read that faults leaves the pair and keeps the SP increments before it. -/
def Obligations.PopLoadsThePairFromTheStack : Prop :=
  ∀ (s : State) (rr : RegStk),
    (∀ l h, busPeek true s s.sp = some l → busPeek true s (s.sp + 1) = some h →
      ∃ t, exec (Instr.ofPop rr) s = .next t ∧
        t.getStk rr = BitVec.ofNat 16 (256 * h.toNat + (if rr = .af then l &&& 0xF0 else l).toNat) ∧
        (∀ q, q ≠ rr → t.getStk q = s.getStk q) ∧
        t = { s with regs := t.regs, sp := s.sp + 2, busy := 3, joypadDraws := t.joypadDraws }) ∧
    (busPeek true s s.sp = none → exec (Instr.ofPop rr) s = .next (invalidAt s.sp .read s)) ∧
    (∀ l, busPeek true s s.sp = some l → busPeek true s (s.sp + 1) = none →
      ∃ d, exec (Instr.ofPop rr) s =
        .next (invalidAt (s.sp + 1) .read { s with sp := s.sp + 1, joypadDraws := d }))

/-! ## Arithmetic and logic -/

/-- R160 to R163: ADD and ADC on exact integers, in every operand form (a register, (HL), an immediate of any value); the carry
input is F.C before the instruction. -/
def Obligations.AddAndAdcSumWithCarry : Prop :=
  ∀ (s : State) (op : AluOp) (cin : Nat), (op, cin) ∈ [(AluOp.add, 0), (.adc, (s.regs.f.toNat / 16) % 2)] →
    ∀ (i : Instr) (b : Byte) (cost : Nat), AluForm op s i b cost →
      let sum := s.regs.a.toNat + b.toNat + cin
      ∃ t, exec i s = .next t ∧ t.regs.a.toNat = sum % 256 ∧
        t.regs.f = (if sum % 256 = 0 then 0x80 else 0x00) |||
          (if s.regs.a.toNat % 16 + b.toNat % 16 + cin > 0xF then 0x20 else 0x00) |||
          (if sum > 0xFF then 0x10 else 0x00) ∧
        t.bc = s.bc ∧ t.de = s.de ∧ t.hl = s.hl ∧ OnlyRegs s t cost

/-- R160, R161, R164, R165, R169: SUB, SBC and CP on exact integers, in every operand form (a register, (HL), an immediate of
any value); CP writes no register but F. -/
def Obligations.SubSbcAndCpSubtractWithBorrow : Prop :=
  ∀ (s : State) (op : AluOp) (cin : Nat) (keepsA : Bool),
    (op, cin, keepsA) ∈ [(AluOp.sub, 0, false), (.sbc, (s.regs.f.toNat / 16) % 2, false), (.cp, 0, true)] →
    ∀ (i : Instr) (b : Byte) (cost : Nat), AluForm op s i b cost →
      let difference : Int := (s.regs.a.toNat : Int) - b.toNat - cin
      ∃ t, exec i s = .next t ∧
        (t.regs.a.toNat : Int) = (if keepsA then (s.regs.a.toNat : Int) else difference % 256) ∧
        t.regs.f = (if difference % 256 = 0 then 0x80 else 0x00) ||| 0x40 |||
          (if s.regs.a.toNat % 16 < b.toNat % 16 + cin then 0x20 else 0x00) |||
          (if s.regs.a.toNat < b.toNat + cin then 0x10 else 0x00) ∧
        t.bc = s.bc ∧ t.de = s.de ∧ t.hl = s.hl ∧ OnlyRegs s t cost

/-- R160, R161, R166, R167, R168: AND, XOR and OR, in every operand form (a register, (HL), an immediate of any value); an (HL)
operand that cannot be read ends the run for every one of the eight accumulator operations. -/
def Obligations.AndXorOrAreBitwise : Prop :=
  (∀ (s : State) (op : AluOp) (i : Instr) (b : Byte) (cost : Nat), AluForm op s i b cost →
    ∀ (r h : Byte),
      (op, r, h) ∈ [(AluOp.and, s.regs.a &&& b, 0x20), (.xor, s.regs.a ^^^ b, 0x00), (.or, s.regs.a ||| b, 0x00)] →
      ∃ t, exec i s = .next t ∧ t.regs.a = r ∧ t.regs.f = (if r = 0 then 0x80 else 0x00) ||| h ∧
        t.bc = s.bc ∧ t.de = s.de ∧ t.hl = s.hl ∧ OnlyRegs s t cost) ∧
  (∀ (s : State) (op : AluOp), busPeek true s s.hl = none →
    exec (Instr.ofAlu op .indHl) s = .next (invalidAt s.hl .read s))

/-- R170 to R173: INC and DEC of a register and of the byte at HL: Z, N and H written, C kept. At (HL) the flags are written
after the write, so a write that faults leaves them. -/
def Obligations.IncAndDecKeepTheCarry : Prop :=
  ∀ (s : State) (inc : Bool) (v : Byte),
    let r : Byte := if inc then v + 1 else v - 1
    let f : Byte := (if r = 0 then 0x80 else 0x00) ||| (if inc then 0x00 else 0x40) |||
      (if v.toNat % 16 = (if inc then 15 else 0) then 0x20 else 0x00) ||| (s.regs.f &&& 0x10)
    let i (x : R8) : Instr := if inc then Instr.ofInc x else Instr.ofDec x
    (∀ q : Reg8, s.get8 q = v → ∃ t, exec (i (.reg q)) s = .next t ∧ t.get8 q = r ∧
      (∀ p, p ≠ q → t.get8 p = s.get8 p) ∧ t.regs.f = f ∧ t = { s with regs := t.regs, busy := 1 }) ∧
    (busPeek true s s.hl = some v →
      (∀ u, busWrite s.hl r (afterRead s s.hl) = .ok () u →
        exec (i .indHl) s = .next { u with regs := { s.regs with f := f }, busy := 3 }) ∧
      (∀ u, busWrite s.hl r (afterRead s s.hl) = .stop u → exec (i .indHl) s = .next u)) ∧
    (busPeek true s s.hl = none → exec (i .indHl) s = .next (invalidAt s.hl .read s))

/-- R174: DAA, for every A and every setting of the flags; the intermediate is not reduced before the end, so the test
against 0x9F is on the value after the low correction. -/
def Obligations.DaaAdjustsTheAccumulator : Prop :=
  ∀ s : State,
    let a : Int := s.regs.a.toNat
    let n := s.regs.f.getLsbD 6
    let h := s.regs.f.getLsbD 5
    let c := s.regs.f.getLsbD 4
    let low : Int := if n then (if h then a - 0x06 else a) else if h = true ∨ a % 16 > 9 then a + 0x06 else a
    let high : Bool := c || (!n && decide (low > 0x9F))
    let result : Int := (if high then (if n then low - 0x60 else low + 0x60) else low) % 256
    ∃ t, exec .daa s = .next t ∧ (t.regs.a.toNat : Int) = result ∧
      t.regs.f = (if result = 0 then 0x80 else 0x00) ||| (s.regs.f &&& 0x40) ||| (if high then 0x10 else 0x00) ∧
      t.bc = s.bc ∧ t.de = s.de ∧ t.hl = s.hl ∧ t = { s with regs := t.regs, busy := 1 } ∧ encode .daa = [0x27]

/-- R175 to R177: CPL complements A and sets N and H; SCF sets C, CCF complements it, both clearing N and H. The premise is the
invariant on F's low nibble (R21), which the flag writes clear. -/
def Obligations.CplScfAndCcf : Prop :=
  ∀ s : State, LowNibbleZero s →
    [encode .cpl, encode .scf, encode .ccf] = [[0x2F], [0x37], [0x3F]] ∧
    exec .cpl s = .next { s with regs := { s.regs with a := ~~~s.regs.a, f := s.regs.f ||| 0x60 }, busy := 1 } ∧
    exec .scf s = .next { s with regs := { s.regs with f := (s.regs.f &&& 0x80) ||| 0x10 }, busy := 1 } ∧
    exec .ccf s = .next { s with regs := { s.regs with f := (s.regs.f &&& 0x90) ^^^ 0x10 }, busy := 1 }

/-- R190 to R192: ADD HL,rr keeps Z, clears N and takes H and C from the carries out of bits 11 and 15; INC rr and DEC rr write
no flag. All results are modulo 65536. -/
def Obligations.SixteenBitArithmetic : Prop :=
  ∀ (s : State) (rr : Reg16),
    let h := s.hl.toNat
    let v := (s.get16 rr).toNat
    (∃ t, exec (Instr.ofAddHl rr) s = .next t ∧ t.hl.toNat = (h + v) % 65536 ∧
      t.regs.f = (s.regs.f &&& 0x80) ||| (if h % 4096 + v % 4096 > 4095 then 0x20 else 0x00) |||
        (if h + v > 65535 then 0x10 else 0x00) ∧
      t.regs.a = s.regs.a ∧ t.bc = s.bc ∧ t.de = s.de ∧ t = { s with regs := t.regs, busy := 2 }) ∧
    (∃ t, exec (Instr.ofInc16 rr) s = .next t ∧ (t.get16 rr).toNat = (v + 1) % 65536 ∧
      (∀ q, q ≠ rr → t.get16 q = s.get16 q) ∧ t.af = s.af ∧ t = { s with regs := t.regs, sp := t.sp, busy := 2 }) ∧
    (∃ t, exec (Instr.ofDec16 rr) s = .next t ∧ (t.get16 rr).toNat = (v + 65535) % 65536 ∧
      (∀ q, q ≠ rr → t.get16 q = s.get16 q) ∧ t.af = s.af ∧ t = { s with regs := t.regs, sp := t.sp, busy := 2 })

/-- R193 to R195: ADD SP,e8 and LD HL,SP+e8 add the signed byte modulo 65536; Z and N are cleared, H and C are the carries of
the 8-bit sum of SP's low byte and the unsigned byte. LD HL,SP+e8 does not change SP. -/
def Obligations.StackPointerPlusSignedByte : Prop :=
  ∀ (s : State) (u : Byte),
    let result : Int := ((s.sp.toNat : Int) + u.toInt) % 65536
    let f : Byte := (if s.sp.toNat % 16 + u.toNat % 16 > 0xF then 0x20 else 0x00) |||
      (if s.sp.toNat % 256 + u.toNat > 0xFF then 0x10 else 0x00)
    (∃ t, exec (.addSpE8 u) s = .next t ∧ (t.sp.toNat : Int) = result ∧
      t = { s with regs := { s.regs with f := f }, sp := t.sp, busy := 4 }) ∧
    (∃ t, exec (.ldHlSpE8 u) s = .next t ∧ (t.hl.toNat : Int) = result ∧ t.regs.f = f ∧ t.regs.a = s.regs.a ∧
      t.bc = s.bc ∧ t.de = s.de ∧ t = { s with regs := t.regs, busy := 3 })

/-! ## Rotates, shifts and bits -/

/-- R200 to R203: the four accumulator rotates: C is the bit shifted out and Z is 0 whatever the result is. -/
def Obligations.AccumulatorRotatesClearZero : Prop :=
  ∀ s : State,
    let a := s.regs.a.toNat
    let c := (s.regs.f.toNat / 16) % 2
    ∀ (i : Instr) (r out : Nat),
      (i, r, out) ∈ [(Instr.rlca, (2 * a + a / 128) % 256, a / 128), (.rrca, a / 2 + 128 * (a % 2), a % 2),
        (.rla, (2 * a + c) % 256, a / 128), (.rra, a / 2 + 128 * c, a % 2)] →
      exec i s = .next { s with
        regs := { s.regs with a := BitVec.ofNat 8 r, f := BitVec.ofNat 8 (16 * out) }, busy := 1 } ∧
      [encode .rlca, encode .rrca, encode .rla, encode .rra] = [[0x07], [0x0F], [0x17], [0x1F]]

/-- R204 to R212: the eight prefixed rotates and shifts, on every register and on (HL): Z from the result, N = H = 0, C the
bit shifted out, 0 for SWAP. At (HL) the flags are written after the write. -/
def Obligations.PrefixedRotatesAndShifts : Prop :=
  ∀ (s : State) (x : R8) (b : Byte), operandValue x s = some b →
    let v := b.toNat
    let c := (s.regs.f.toNat / 16) % 2
    ∀ (op : ShiftOp) (r out : Nat),
      (op, r, out) ∈ [(ShiftOp.rlc, (2 * v + v / 128) % 256, v / 128), (.rrc, v / 2 + 128 * (v % 2), v % 2),
        (.rl, (2 * v + c) % 256, v / 128), (.rr, v / 2 + 128 * c, v % 2), (.sla, (2 * v) % 256, v / 128),
        (.sra, v / 2 + 128 * (v / 128), v % 2), (.swap, 16 * (v % 16) + v / 16, 0), (.srl, v / 2, v % 2)] →
      let f := BitVec.ofNat 8 ((if r = 0 then 128 else 0) + 16 * out)
      (∀ q, x = .reg q → ∃ t, exec (Instr.ofShift op x) s = .next t ∧ t.get8 q = BitVec.ofNat 8 r ∧
        (∀ p, p ≠ q → t.get8 p = s.get8 p) ∧ t.regs.f = f ∧ t = { s with regs := t.regs, busy := 2 }) ∧
      (x = .indHl → ∀ u, busWrite s.hl (BitVec.ofNat 8 r) (afterRead s s.hl) = .ok () u →
        exec (Instr.ofShift op x) s = .next { u with regs := { s.regs with f := f }, busy := 4 }) ∧
      (x = .indHl → ∀ u, busWrite s.hl (BitVec.ofNat 8 r) (afterRead s s.hl) = .stop u →
        exec (Instr.ofShift op x) s = .next u)

/-- R213: BIT n sets Z when the bit is 0, clears N, sets H, keeps C, and writes nothing back. -/
def Obligations.BitTestsWithoutWriting : Prop :=
  ∀ (s : State) (n : Oct) (x : R8) (b : Byte), operandValue x s = some b →
    ∃ t, exec (Instr.ofBit n x) s = .next t ∧
      t = { s with
        regs := { s.regs with f := (if (b.toNat / 2 ^ n.val) % 2 = 0 then 0x80 else 0x00) ||| 0x20 ||| (s.regs.f &&& 0x10) }
        busy := (if x = .indHl then 3 else 2)
        joypadDraws := t.joypadDraws }

/-- R214, R215: RES clears and SET sets bit n of the operand and nothing else; no flag is written. An (HL) operand is read,
then written, even when the bit already had its value; a prefixed instruction whose (HL) read faults ends the run. -/
def Obligations.ResAndSetChangeOneBit : Prop :=
  (∀ (s : State) (n : Oct) (x : R8) (b : Byte), operandValue x s = some b →
    ∀ (i : Instr) (v : Byte),
      (i, v) ∈ [(Instr.ofRes n x, b &&& ~~~BitVec.ofNat 8 (2 ^ n.val)),
        (Instr.ofSet n x, b ||| BitVec.ofNat 8 (2 ^ n.val))] →
      (∀ q, x = .reg q → ∃ t, exec i s = .next t ∧ t.get8 q = v ∧ (∀ p, p ≠ q → t.get8 p = s.get8 p) ∧
        t.regs.f = s.regs.f ∧ t = { s with regs := t.regs, busy := 2 }) ∧
      (x = .indHl → ∀ u, busWrite s.hl v (afterRead s s.hl) = .ok () u → exec i s = .next { u with busy := 4 }) ∧
      (x = .indHl → ∀ u, busWrite s.hl v (afterRead s s.hl) = .stop u → exec i s = .next u)) ∧
  (∀ (s : State) (n : Oct) (op : ShiftOp), busPeek true s s.hl = none →
    ∀ i ∈ [Instr.ofShift op .indHl, Instr.ofBit n .indHl, Instr.ofRes n .indHl, Instr.ofSet n .indHl],
      exec i s = .next (invalidAt s.hl .read s))

/-! ## Control transfer -/

/-- R230 to R234, R96: JP, JP HL and JR, with and without a condition. The displacement is from the next instruction's address,
modulo 65536. A transfer not taken changes nothing but the cost. -/
def Obligations.JumpsTransferControl : Prop :=
  ∀ (s : State) (nn : Word) (e : Byte),
    let rel : Word := BitVec.ofInt 16 ((s.pc.toNat : Int) + e.toInt)
    exec (.jpA16 nn) s = .next { s with pc := nn, busy := 4 } ∧ exec .jpHl s = .next { s with pc := s.hl, busy := 1 } ∧
    exec (.jrE8 e) s = .next { s with pc := rel, busy := 3 } ∧
    ∀ (cc : Cond) (taken : Bool),
      (cc, taken) ∈ [(Cond.nz, !s.regs.f.getLsbD 7), (.z, s.regs.f.getLsbD 7), (.nc, !s.regs.f.getLsbD 4),
        (.c, s.regs.f.getLsbD 4)] →
      exec (Instr.ofJp cc nn) s = .next (if taken then { s with pc := nn, busy := 4 } else { s with busy := 3 }) ∧
      exec (Instr.ofJr cc e) s = .next (if taken then { s with pc := rel, busy := 3 } else { s with busy := 2 })

/-- R235, R236, R239: CALL, CALL cc and RST push the address of the next instruction, then go to their target; a push that
faults leaves the pc there. The push is that of PUSH; onto a stack in RAM it completes and the return address lies
little-endian at the new SP. -/
def Obligations.CallsPushTheReturnAddress : Prop :=
  ∀ (s : State) (nn : Word) (y : Oct),
    (∀ t, push16 s.pc s = .ok () t →
      exec (.callA16 nn) s = .next { t with pc := nn, busy := 6 } ∧
      exec (Instr.ofRst y) s = .next { t with pc := BitVec.ofNat 16 (8 * y.val), busy := 4 }) ∧
    (∀ t, push16 s.pc s = .stop t → exec (.callA16 nn) s = .next t ∧ exec (Instr.ofRst y) s = .next t ∧ t.pc = s.pc) ∧
    ∀ (cc : Cond) (taken : Bool),
      (cc, taken) ∈ [(Cond.nz, !s.regs.f.getLsbD 7), (.z, s.regs.f.getLsbD 7), (.nc, !s.regs.f.getLsbD 4),
        (.c, s.regs.f.getLsbD 4)] →
      (taken = false → exec (Instr.ofCall cc nn) s = .next { s with busy := 3 }) ∧
      (taken = true → ∀ t, push16 s.pc s = .ok () t →
        exec (Instr.ofCall cc nn) s = .next { t with pc := nn, busy := 6 }) ∧
      (taken = true → ∀ t, push16 s.pc s = .stop t → exec (Instr.ofCall cc nn) s = .next t) ∧
      (plainRam s (s.sp - 1) = true → plainRam s (s.sp - 2) = true →
        ∀ (i : Instr) (target : Word) (cost : Nat),
          (i, target, cost) ∈ [(.callA16 nn, nn, 6), (Instr.ofRst y, BitVec.ofNat 16 (8 * y.val), 4)] ∨
            (taken = true ∧ i = Instr.ofCall cc nn ∧ target = nn ∧ cost = 6) →
          ∃ t, exec i s = .next t ∧ t = { s with ram := t.ram, sp := s.sp - 2, pc := target, busy := cost } ∧
            (s.ram.wf = true → ramKey (s.sp - 1) ≠ ramKey (s.sp - 2) →
              busPeek true t (s.sp - 1) = some (BitVec.ofNat 8 (s.pc.toNat / 256)) ∧
              busPeek true t (s.sp - 2) = some (BitVec.ofNat 8 s.pc.toNat)))

/-- R237, R238, R242, R325: RET, RET cc and RETI pop the pc; RETI also sets the latch, or IME under
`RETI_MODE = Immediate`. A pop that faults leaves the pc, the latch and IME. The pop is that of POP; from two readable bytes
it completes, the low byte at SP. -/
def Obligations.ReturnsPopThePc : Prop :=
  ∀ s : State,
    (∀ v t, pop16 s = .ok v t →
      exec .ret s = .next { t with pc := v, busy := 4 } ∧
      (s.params.retiMode = .delayed → exec .reti s = .next { t with pc := v, eiPending := true, busy := 4 }) ∧
      (s.params.retiMode = .immediate → exec .reti s = .next { t with pc := v, ime := true, busy := 4 })) ∧
    (∀ t, pop16 s = .stop t → exec .ret s = .next t ∧ exec .reti s = .next t ∧ t.pc = s.pc ∧ t.ime = s.ime ∧
      t.eiPending = s.eiPending) ∧
    ∀ (cc : Cond) (taken : Bool),
      (cc, taken) ∈ [(Cond.nz, !s.regs.f.getLsbD 7), (.z, s.regs.f.getLsbD 7), (.nc, !s.regs.f.getLsbD 4),
        (.c, s.regs.f.getLsbD 4)] →
      (taken = false → exec (Instr.ofRet cc) s = .next { s with busy := 2 }) ∧
      (taken = true → ∀ v t, pop16 s = .ok v t → exec (Instr.ofRet cc) s = .next { t with pc := v, busy := 5 }) ∧
      (taken = true → ∀ t, pop16 s = .stop t → exec (Instr.ofRet cc) s = .next t) ∧
      (∀ l h, busPeek true s s.sp = some l → busPeek true s (s.sp + 1) = some h →
        ∀ (i : Instr) (cost : Nat),
          (i, cost) ∈ [(Instr.ret, 4), (.reti, 4)] ∨ (taken = true ∧ i = Instr.ofRet cc ∧ cost = 5) →
          ∃ t, exec i s = .next t ∧ t.pc.toNat = 256 * h.toNat + l.toNat ∧
            t = { s with pc := t.pc, sp := s.sp + 2, ime := t.ime, eiPending := t.eiPending, busy := cost,
                         joypadDraws := t.joypadDraws })

/-! ## System instructions -/

/-- R250, R251, R255, R256: NOP, HALT, DI and EI write what their rules say and nothing else. R253: STOP sets `stopped` and
under `STOP_MODE = Refuse` ends the run with the record of its own address, two below the pc after its bytes; under
`HaltUntilJoypad` a tick starts by clearing `stopped` exactly when IF bit 4 is set, whatever IE and IME are. -/
def Obligations.SystemInstructionsWriteControlState : Prop :=
  ∀ (s : State) (second : Byte),
    exec .nop s = .next { s with busy := 1 } ∧ exec .halt s = .next { s with halted := true, busy := 1 } ∧
    exec .di s = .next { s with ime := false, eiPending := false, busy := 1 } ∧
    exec .ei s = .next { s with eiPending := true, busy := 1 } ∧
    (s.params.stopMode = .refuse →
      exec (.stop second) s = .next { s with stopped := true, outcome := .refused (.stop (s.pc - 2)) }) ∧
    (s.params.stopMode = .haltUntilJoypad → exec (.stop second) s = .next { s with stopped := true, busy := 1 }) ∧
    (s.stopped = true → (wakeUp s).stopped =
      !(decide (s.params.stopMode = .haltUntilJoypad) && s.ifReg.getLsbD 4))

/-- R254: the prefix row runs the prefixed instruction that its second byte names, at that instruction's cost. -/
def Obligations.PrefixRunsThePrefixedInstruction : Prop :=
  ∀ (op2 b2 : Byte) (s : State),
    ∃ t, exec (.prefixCb op2) s = .next t ∧ exec (decodeAt 0xCB op2 b2) s = .next t ∧
      (decodeAt 0xCB op2 b2).wellFormed = true

/-- R101, R257: the run of each of the eleven undefined opcodes records the opcode and the address it was fetched from and
changes nothing else; and a tick that fetches one at a dispatch point ends the run there, the pc one past it. That the record
stands in a next state, its address one below the pc `exec` is given, is log entries 11 and 12; the host's move in the gap
before the tick is log entry 6, the count of joypad draws log entry 4. -/
def Obligations.UndefinedOpcodesEndTheRun : Prop :=
  ∀ (op : Byte) (i : Instr),
    (op, i) ∈ [((0xD3 : Byte), Instr.undefinedD3), (0xDB, .undefinedDB), (0xDD, .undefinedDD), (0xE3, .undefinedE3),
      (0xE4, .undefinedE4), (0xEB, .undefinedEB), (0xEC, .undefinedEC), (0xED, .undefinedED), (0xF4, .undefinedF4),
      (0xFC, .undefinedFC), (0xFD, .undefinedFD)] →
    (∀ s : State, exec i s = .next { s with outcome := .faulted (.undefinedOpcode op (s.pc - 1)) }) ∧
    (∀ s : State,
      let w := wakeUp (hostGap s)
      s.outcome = .running → atDispatchPoint w = true → interruptSelect w = none → busPeek true w s.pc = some op →
      ∃ t, step s = .next t ∧ t = { w with pc := s.pc + 1, outcome := .faulted (.undefinedOpcode op s.pc),
                                            joypadDraws := t.joypadDraws })

/-! ## A stopped CPU -/

/-- R253, R340, R372: while `stopped` stays true (under `HaltUntilJoypad`, while IF bit 4 is 0; under `Refuse`, always) a tick
dispatches nothing, keeps `busy` and `clock`, and steps the devices; step (1) of the tick may still clear `halted`. Under
`HaltUntilJoypad` a tick that starts with IF bit 4 set clears `stopped`, whatever IE and IME are, and goes on as from a state
that is not stopped; with `busy` at 1, as STOP leaves it, that tick dispatches nothing, brings `busy` to 0 and leaves IF bit
4 set. `before` is the state after the host's move in the gap before the tick (log entry 6). -/
def Obligations.StoppedCpuWaitsForTheJoypad : Prop :=
  ∀ s : State, s.outcome = .running → s.stopped = true →
    let before := hostGap s
    let p := before.ie.toNat &&& before.ifReg.toNat &&& 0x1F
    let r := rendererStep s
    let t := timerAdvance s.params.timerCyclesPerStep s.timer
    let devices := { before with
      halted := s.halted && decide (p = 0)
      ppu := r.1
      timer := t.1
      frameBit := r.2.vb
      ifReg := before.ifReg ||| (if r.2.vb then 0x01 else 0) ||| (if r.2.st then 0x02 else 0) |||
        (if t.2 then 0x04 else 0) }
    (s.params.stopMode = .refuse ∨ before.ifReg.getLsbD 4 = false → step s = .next devices) ∧
    (s.params.stopMode = .haltUntilJoypad → before.ifReg.getLsbD 4 = true →
      step s = step { s with stopped := false } ∧
      (s.halted = false → s.busy = 1 →
        step s = .next { devices with stopped := false, busy := 0, clock := s.clock + 1 } ∧
        devices.ifReg.getLsbD 4 = true))
end

