-- ==== Sys2Proof/Laws/Bits.lean ====
section
/-! SUPPORT. The byte-order and flag-packing helpers: what a word's bytes are, what the packed flags read as, and the
register file's read after write. -/

namespace Sys2Proof

theorem word_toNat (h l : Byte) : (word h l).toNat = 256 * h.toNat + l.toNat := by
  simp only [word, BitVec.toNat_append]
  rw [← Nat.shiftLeft_add_eq_or_of_lt l.isLt, Nat.shiftLeft_eq]; omega

theorem lo_toNat (v : Word) : (lo v).toNat = v.toNat % 256 := by simp [lo]

theorem hi_toNat (v : Word) : (hi v).toNat = v.toNat / 256 := by
  simp [hi, Nat.shiftRight_eq_div_pow]; omega

@[simp] theorem lo_word (h l : Byte) : lo (word h l) = l :=
  BitVec.eq_of_toNat_eq (by rw [lo_toNat, word_toNat]; omega)

@[simp] theorem hi_word (h l : Byte) : hi (word h l) = h :=
  BitVec.eq_of_toNat_eq (by rw [hi_toNat, word_toNat]; omega)

@[simp] theorem word_hi_lo (v : Word) : word (hi v) (lo v) = v :=
  BitVec.eq_of_toNat_eq (by rw [word_toNat, lo_toNat, hi_toNat]; omega)

theorem bit_le (b : Bool) : bit b ≤ 1 := by cases b <;> decide

namespace Machine

theorem packFlags_masked (z n h c : Bool) : packFlags z n h c &&& 0xF0 = packFlags z n h c := by
  revert z n h c; decide

/-- Writing the four flags stores the packed byte as it is: its low nibble is zero already (R21). -/
theorem State.setFlags_f (s : State) (z n h c : Bool) : (s.setFlags z n h c).regs.f = packFlags z n h c :=
  packFlags_masked z n h c

@[simp] theorem State.setFlags_flagZ (s : State) (z n h c : Bool) : (s.setFlags z n h c).flagZ = z := by
  simp only [State.flagZ, State.setFlags_f]; revert z n h c; decide

@[simp] theorem State.setFlags_flagN (s : State) (z n h c : Bool) : (s.setFlags z n h c).flagN = n := by
  simp only [State.flagN, State.setFlags_f]; revert z n h c; decide

@[simp] theorem State.setFlags_flagH (s : State) (z n h c : Bool) : (s.setFlags z n h c).flagH = h := by
  simp only [State.flagH, State.setFlags_f]; revert z n h c; decide

@[simp] theorem State.setFlags_flagC (s : State) (z n h c : Bool) : (s.setFlags z n h c).flagC = c := by
  simp only [State.flagC, State.setFlags_f]; revert z n h c; decide

@[simp] theorem State.set8_f (s : State) (r : Reg8) (v : Byte) : (s.set8 r v).regs.f = s.regs.f := by cases r <;> rfl

@[simp] theorem State.set8_get8_self (s : State) (r : Reg8) (v : Byte) : (s.set8 r v).get8 r = v := by cases r <;> rfl

theorem State.set8_get8_of_ne (s : State) {r q : Reg8} (v : Byte) (h : q ≠ r) : (s.set8 r v).get8 q = s.get8 q := by
  cases r <;> cases q <;> first | rfl | exact absurd rfl h

theorem State.set8_get8 (s : State) (r q : Reg8) (v : Byte) :
    (s.set8 r v).get8 q = if q = r then v else s.get8 q := by
  by_cases h : q = r
  · rw [h, set8_get8_self, if_pos rfl]
  · rw [set8_get8_of_ne s v h, if_neg h]

@[simp] theorem State.setF_get8 (s : State) (r : Reg8) (v : Byte) : (s.setF v).get8 r = s.get8 r := by cases r <;> rfl

@[simp] theorem State.setFlags_get8 (s : State) (r : Reg8) (z n h c : Bool) :
    (s.setFlags z n h c).get8 r = s.get8 r := by cases r <;> rfl

/-- A pair reads back what was written to it (R23). -/
@[simp] theorem State.set16_get16_self (s : State) (rr : Reg16) (v : Word) : (s.set16 rr v).get16 rr = v := by
  cases rr <;> first | rfl | exact word_hi_lo v

@[simp] theorem State.set16_f (s : State) (rr : Reg16) (v : Word) : (s.set16 rr v).regs.f = s.regs.f := by
  cases rr <;> rfl

/-- The low nibble of F after a write of F (R21). -/
theorem State.setF_lowNibble (s : State) (v : Byte) : (s.setF v).regs.f &&& 0x0F = 0 := by
  have h : ∀ w : Byte, w &&& 0xF0 &&& 0x0F = 0 := by decide
  exact h v

/-- An accumulator operation writes A, but for CP, and F; nothing else. -/
theorem State.applyAlu_get8_of_ne (s : State) (op : AluOp) (b : Byte) {r : Reg8} (h : r ≠ .a) :
    (s.applyAlu op b).get8 r = s.get8 r := by
  cases op <;> simp only [State.applyAlu] <;> cases r <;> first | rfl | exact absurd rfl h

theorem State.applyAlu_lowNibble (s : State) (op : AluOp) (b : Byte) : (s.applyAlu op b).regs.f &&& 0x0F = 0 := by
  unfold State.applyAlu
  split <;> simp only [State.set8_f] <;> exact State.setF_lowNibble _ _

/-- The bits a flag write can leave in F. -/
theorem packFlags_eq_of_bits (f : Byte) (h : f &&& 0x0F = 0) :
    f = packFlags (f.getLsbD 7) (f.getLsbD 6) (f.getLsbD 5) (f.getLsbD 4) := by
  revert f; decide

end Machine
end Sys2Proof
end

