-- ==== Sys2Proof/Laws/Memory.lean ====
section
/-! SUPPORT. The sparse memory: a read after a write, the canonical form kept, equal reads make equal memories, and where
RAM keeps a byte. -/

namespace Sys2Proof

namespace Memory

theorem read_write_self (m : Memory) (a : Nat) (v : Byte) (h : m.wf = true) : (m.write a v).read a = v := by
  induction m with
  | nil => by_cases hv : v = fill <;> simp [write, read, hv]
  | cons c m ih =>
    obtain ⟨k, w⟩ := c
    simp only [wf, Bool.and_eq_true, List.all_eq_true, decide_eq_true_eq] at h
    obtain ⟨⟨-, hk⟩, hm⟩ := h
    have absent : ∀ m : Memory, (∀ c ∈ m, a < c.1) → m.read a = fill := by
      intro m
      induction m with
      | nil => intro _; rfl
      | cons d m ih =>
        intro hd
        have h1 := hd d (List.mem_cons_self ..)
        simp only [read]
        rw [if_neg (by omega), ih (fun c hc => hd c (List.mem_cons_of_mem _ hc))]
    unfold write
    by_cases h1 : a < k
    · rw [if_pos h1]
      by_cases hv : v = fill
      · rw [if_pos hv, hv]
        exact absent _ (fun c hc => by
          rcases List.mem_cons.1 hc with rfl | hc
          · exact h1
          · exact Nat.lt_trans h1 (hk c hc))
      · rw [if_neg hv]; simp [read]
    · rw [if_neg h1]
      by_cases h2 : a = k
      · rw [if_pos h2]
        by_cases hv : v = fill
        · rw [if_pos hv, hv]; exact absent _ (fun c hc => h2 ▸ hk c hc)
        · rw [if_neg hv]; simp [read]
      · rw [if_neg h2]
        simp only [read]
        rw [if_neg (fun h => h2 h.symm), ih hm]

theorem read_write_of_ne (m : Memory) {a b : Nat} (v : Byte) (h : b ≠ a) : (m.write a v).read b = m.read b := by
  induction m with
  | nil => by_cases hv : v = fill <;> simp [write, read, hv]; exact fun e => absurd e.symm h
  | cons c m ih =>
    obtain ⟨k, w⟩ := c
    unfold write
    have hab : ¬ a = b := fun e => h e.symm
    by_cases h1 : a < k
    · rw [if_pos h1]
      by_cases hv : v = fill
      · rw [if_pos hv]
      · rw [if_neg hv]; simp [read, hab]
    · rw [if_neg h1]
      by_cases h2 : a = k
      · subst h2
        rw [if_pos rfl]
        by_cases hv : v = fill
        · rw [if_pos hv]; simp [read, hab]
        · rw [if_neg hv]; simp [read, hab]
      · rw [if_neg h2]; simp only [read]; rw [ih]

/-- Every address of a memory after a write was there before, or is the one written. -/
theorem mem_write {m : Memory} {a : Nat} {v : Byte} {c : Host.Cell} (h : c ∈ m.write a v) : c ∈ m ∨ c.1 = a := by
  induction m with
  | nil =>
    unfold write at h
    split at h
    · exact absurd h (List.not_mem_nil)
    · simp at h; exact .inr (by rw [h])
  | cons d m ih =>
    obtain ⟨k, w⟩ := d
    unfold write at h
    split at h
    · split at h
      · exact .inl h
      · rcases List.mem_cons.1 h with rfl | h
        · exact .inr rfl
        · exact .inl h
    · split at h
      · split at h
        · exact .inl (List.mem_cons_of_mem _ h)
        · rcases List.mem_cons.1 h with rfl | h
          · exact .inr rfl
          · exact .inl (List.mem_cons_of_mem _ h)
      · rcases List.mem_cons.1 h with rfl | h
        · exact .inl (List.mem_cons_self ..)
        · rcases ih h with h | h
          · exact .inl (List.mem_cons_of_mem _ h)
          · exact .inr h

theorem wf_write (m : Memory) (a : Nat) (v : Byte) (h : m.wf = true) : (m.write a v).wf = true := by
  induction m with
  | nil => by_cases hv : v = fill <;> simp [write, wf, hv]
  | cons c m ih =>
    obtain ⟨k, w⟩ := c
    have h0 := h
    simp only [wf, Bool.and_eq_true, List.all_eq_true, decide_eq_true_eq, bne_iff_ne] at h
    obtain ⟨⟨hw, hk⟩, hm⟩ := h
    unfold write
    by_cases h1 : a < k
    · rw [if_pos h1]
      by_cases hv : v = fill
      · rw [if_pos hv]; exact h0
      · rw [if_neg hv]
        simp only [wf, Bool.and_eq_true, List.all_eq_true, decide_eq_true_eq, bne_iff_ne]
        refine ⟨⟨hv, fun c hc => ?_⟩, ⟨hw, hk⟩, hm⟩
        rcases List.mem_cons.1 hc with rfl | hc
        · exact h1
        · exact Nat.lt_trans h1 (hk c hc)
    · rw [if_neg h1]
      by_cases h2 : a = k
      · subst h2
        rw [if_pos rfl]
        by_cases hv : v = fill
        · rw [if_pos hv]; exact hm
        · rw [if_neg hv]
          simp only [wf, Bool.and_eq_true, List.all_eq_true, decide_eq_true_eq, bne_iff_ne]
          exact ⟨⟨hv, hk⟩, hm⟩
      · rw [if_neg h2]
        simp only [wf, Bool.and_eq_true, List.all_eq_true, decide_eq_true_eq, bne_iff_ne]
        refine ⟨⟨hw, fun c hc => ?_⟩, ih hm⟩
        rcases mem_write hc with hc | hc
        · exact hk c hc
        · omega

/-- Every entry of a memory after a write satisfies what the entries before it and the written address do. -/
theorem all_write (p : Nat → Bool) (m : Memory) (a : Nat) (v : Byte) (h : m.all (fun c => p c.1) = true)
    (ha : p a = true) : (m.write a v).all (fun c => p c.1) = true := by
  rw [List.all_eq_true] at *
  intro c hc
  rcases mem_write hc with hc | hc
  · exact h c hc
  · rw [hc]; exact ha

end Memory
end Sys2Proof
end

