-- ==== Sys2Proof/Laws/State.lean ====
section
/-! SUPPORT. One lemma per field of `State` and per named update: what the update leaves there. Each is true by
unfolding and is a simp lemma, so that no proof unfolds a record update. -/

namespace Sys2Proof.Machine

@[simp] theorem State.setSp_regs (s : State) (v : Word) : (s.setSp v).regs = s.regs := rfl
@[simp] theorem State.setSp_sp (s : State) (v : Word) : (s.setSp v).sp = v := rfl
@[simp] theorem State.setSp_pc (s : State) (v : Word) : (s.setSp v).pc = s.pc := rfl
@[simp] theorem State.setSp_halted (s : State) (v : Word) : (s.setSp v).halted = s.halted := rfl
@[simp] theorem State.setSp_stopped (s : State) (v : Word) : (s.setSp v).stopped = s.stopped := rfl
@[simp] theorem State.setSp_ime (s : State) (v : Word) : (s.setSp v).ime = s.ime := rfl
@[simp] theorem State.setSp_eiPending (s : State) (v : Word) : (s.setSp v).eiPending = s.eiPending := rfl
@[simp] theorem State.setSp_clock (s : State) (v : Word) : (s.setSp v).clock = s.clock := rfl
@[simp] theorem State.setSp_busy (s : State) (v : Word) : (s.setSp v).busy = s.busy := rfl
@[simp] theorem State.setSp_outcome (s : State) (v : Word) : (s.setSp v).outcome = s.outcome := rfl
@[simp] theorem State.setSp_ifReg (s : State) (v : Word) : (s.setSp v).ifReg = s.ifReg := rfl
@[simp] theorem State.setSp_ie (s : State) (v : Word) : (s.setSp v).ie = s.ie := rfl
@[simp] theorem State.setSp_timer (s : State) (v : Word) : (s.setSp v).timer = s.timer := rfl
@[simp] theorem State.setSp_ppu (s : State) (v : Word) : (s.setSp v).ppu = s.ppu := rfl
@[simp] theorem State.setSp_ram (s : State) (v : Word) : (s.setSp v).ram = s.ram := rfl
@[simp] theorem State.setSp_bootDisabled (s : State) (v : Word) : (s.setSp v).bootDisabled = s.bootDisabled := rfl
@[simp] theorem State.setSp_cart (s : State) (v : Word) : (s.setSp v).cart = s.cart := rfl
@[simp] theorem State.setSp_params (s : State) (v : Word) : (s.setSp v).params = s.params := rfl
@[simp] theorem State.setSp_joypadMoves (s : State) (v : Word) : (s.setSp v).joypadMoves = s.joypadMoves := rfl
@[simp] theorem State.setSp_joypadDraws (s : State) (v : Word) : (s.setSp v).joypadDraws = s.joypadDraws := rfl
@[simp] theorem State.setSp_frameBit (s : State) (v : Word) : (s.setSp v).frameBit = s.frameBit := rfl

@[simp] theorem State.setPc_regs (s : State) (v : Word) : (s.setPc v).regs = s.regs := rfl
@[simp] theorem State.setPc_sp (s : State) (v : Word) : (s.setPc v).sp = s.sp := rfl
@[simp] theorem State.setPc_pc (s : State) (v : Word) : (s.setPc v).pc = v := rfl
@[simp] theorem State.setPc_halted (s : State) (v : Word) : (s.setPc v).halted = s.halted := rfl
@[simp] theorem State.setPc_stopped (s : State) (v : Word) : (s.setPc v).stopped = s.stopped := rfl
@[simp] theorem State.setPc_ime (s : State) (v : Word) : (s.setPc v).ime = s.ime := rfl
@[simp] theorem State.setPc_eiPending (s : State) (v : Word) : (s.setPc v).eiPending = s.eiPending := rfl
@[simp] theorem State.setPc_clock (s : State) (v : Word) : (s.setPc v).clock = s.clock := rfl
@[simp] theorem State.setPc_busy (s : State) (v : Word) : (s.setPc v).busy = s.busy := rfl
@[simp] theorem State.setPc_outcome (s : State) (v : Word) : (s.setPc v).outcome = s.outcome := rfl
@[simp] theorem State.setPc_ifReg (s : State) (v : Word) : (s.setPc v).ifReg = s.ifReg := rfl
@[simp] theorem State.setPc_ie (s : State) (v : Word) : (s.setPc v).ie = s.ie := rfl
@[simp] theorem State.setPc_timer (s : State) (v : Word) : (s.setPc v).timer = s.timer := rfl
@[simp] theorem State.setPc_ppu (s : State) (v : Word) : (s.setPc v).ppu = s.ppu := rfl
@[simp] theorem State.setPc_ram (s : State) (v : Word) : (s.setPc v).ram = s.ram := rfl
@[simp] theorem State.setPc_bootDisabled (s : State) (v : Word) : (s.setPc v).bootDisabled = s.bootDisabled := rfl
@[simp] theorem State.setPc_cart (s : State) (v : Word) : (s.setPc v).cart = s.cart := rfl
@[simp] theorem State.setPc_params (s : State) (v : Word) : (s.setPc v).params = s.params := rfl
@[simp] theorem State.setPc_joypadMoves (s : State) (v : Word) : (s.setPc v).joypadMoves = s.joypadMoves := rfl
@[simp] theorem State.setPc_joypadDraws (s : State) (v : Word) : (s.setPc v).joypadDraws = s.joypadDraws := rfl
@[simp] theorem State.setPc_frameBit (s : State) (v : Word) : (s.setPc v).frameBit = s.frameBit := rfl

@[simp] theorem State.setBusy_regs (s : State) (v : Nat) : (s.setBusy v).regs = s.regs := rfl
@[simp] theorem State.setBusy_sp (s : State) (v : Nat) : (s.setBusy v).sp = s.sp := rfl
@[simp] theorem State.setBusy_pc (s : State) (v : Nat) : (s.setBusy v).pc = s.pc := rfl
@[simp] theorem State.setBusy_halted (s : State) (v : Nat) : (s.setBusy v).halted = s.halted := rfl
@[simp] theorem State.setBusy_stopped (s : State) (v : Nat) : (s.setBusy v).stopped = s.stopped := rfl
@[simp] theorem State.setBusy_ime (s : State) (v : Nat) : (s.setBusy v).ime = s.ime := rfl
@[simp] theorem State.setBusy_eiPending (s : State) (v : Nat) : (s.setBusy v).eiPending = s.eiPending := rfl
@[simp] theorem State.setBusy_clock (s : State) (v : Nat) : (s.setBusy v).clock = s.clock := rfl
@[simp] theorem State.setBusy_busy (s : State) (v : Nat) : (s.setBusy v).busy = v := rfl
@[simp] theorem State.setBusy_outcome (s : State) (v : Nat) : (s.setBusy v).outcome = s.outcome := rfl
@[simp] theorem State.setBusy_ifReg (s : State) (v : Nat) : (s.setBusy v).ifReg = s.ifReg := rfl
@[simp] theorem State.setBusy_ie (s : State) (v : Nat) : (s.setBusy v).ie = s.ie := rfl
@[simp] theorem State.setBusy_timer (s : State) (v : Nat) : (s.setBusy v).timer = s.timer := rfl
@[simp] theorem State.setBusy_ppu (s : State) (v : Nat) : (s.setBusy v).ppu = s.ppu := rfl
@[simp] theorem State.setBusy_ram (s : State) (v : Nat) : (s.setBusy v).ram = s.ram := rfl
@[simp] theorem State.setBusy_bootDisabled (s : State) (v : Nat) : (s.setBusy v).bootDisabled = s.bootDisabled := rfl
@[simp] theorem State.setBusy_cart (s : State) (v : Nat) : (s.setBusy v).cart = s.cart := rfl
@[simp] theorem State.setBusy_params (s : State) (v : Nat) : (s.setBusy v).params = s.params := rfl
@[simp] theorem State.setBusy_joypadMoves (s : State) (v : Nat) : (s.setBusy v).joypadMoves = s.joypadMoves := rfl
@[simp] theorem State.setBusy_joypadDraws (s : State) (v : Nat) : (s.setBusy v).joypadDraws = s.joypadDraws := rfl
@[simp] theorem State.setBusy_frameBit (s : State) (v : Nat) : (s.setBusy v).frameBit = s.frameBit := rfl

@[simp] theorem State.setIme_regs (s : State) (v : Bool) : (s.setIme v).regs = s.regs := rfl
@[simp] theorem State.setIme_sp (s : State) (v : Bool) : (s.setIme v).sp = s.sp := rfl
@[simp] theorem State.setIme_pc (s : State) (v : Bool) : (s.setIme v).pc = s.pc := rfl
@[simp] theorem State.setIme_halted (s : State) (v : Bool) : (s.setIme v).halted = s.halted := rfl
@[simp] theorem State.setIme_stopped (s : State) (v : Bool) : (s.setIme v).stopped = s.stopped := rfl
@[simp] theorem State.setIme_ime (s : State) (v : Bool) : (s.setIme v).ime = v := rfl
@[simp] theorem State.setIme_eiPending (s : State) (v : Bool) : (s.setIme v).eiPending = s.eiPending := rfl
@[simp] theorem State.setIme_clock (s : State) (v : Bool) : (s.setIme v).clock = s.clock := rfl
@[simp] theorem State.setIme_busy (s : State) (v : Bool) : (s.setIme v).busy = s.busy := rfl
@[simp] theorem State.setIme_outcome (s : State) (v : Bool) : (s.setIme v).outcome = s.outcome := rfl
@[simp] theorem State.setIme_ifReg (s : State) (v : Bool) : (s.setIme v).ifReg = s.ifReg := rfl
@[simp] theorem State.setIme_ie (s : State) (v : Bool) : (s.setIme v).ie = s.ie := rfl
@[simp] theorem State.setIme_timer (s : State) (v : Bool) : (s.setIme v).timer = s.timer := rfl
@[simp] theorem State.setIme_ppu (s : State) (v : Bool) : (s.setIme v).ppu = s.ppu := rfl
@[simp] theorem State.setIme_ram (s : State) (v : Bool) : (s.setIme v).ram = s.ram := rfl
@[simp] theorem State.setIme_bootDisabled (s : State) (v : Bool) : (s.setIme v).bootDisabled = s.bootDisabled := rfl
@[simp] theorem State.setIme_cart (s : State) (v : Bool) : (s.setIme v).cart = s.cart := rfl
@[simp] theorem State.setIme_params (s : State) (v : Bool) : (s.setIme v).params = s.params := rfl
@[simp] theorem State.setIme_joypadMoves (s : State) (v : Bool) : (s.setIme v).joypadMoves = s.joypadMoves := rfl
@[simp] theorem State.setIme_joypadDraws (s : State) (v : Bool) : (s.setIme v).joypadDraws = s.joypadDraws := rfl
@[simp] theorem State.setIme_frameBit (s : State) (v : Bool) : (s.setIme v).frameBit = s.frameBit := rfl

@[simp] theorem State.setEi_regs (s : State) (v : Bool) : (s.setEi v).regs = s.regs := rfl
@[simp] theorem State.setEi_sp (s : State) (v : Bool) : (s.setEi v).sp = s.sp := rfl
@[simp] theorem State.setEi_pc (s : State) (v : Bool) : (s.setEi v).pc = s.pc := rfl
@[simp] theorem State.setEi_halted (s : State) (v : Bool) : (s.setEi v).halted = s.halted := rfl
@[simp] theorem State.setEi_stopped (s : State) (v : Bool) : (s.setEi v).stopped = s.stopped := rfl
@[simp] theorem State.setEi_ime (s : State) (v : Bool) : (s.setEi v).ime = s.ime := rfl
@[simp] theorem State.setEi_eiPending (s : State) (v : Bool) : (s.setEi v).eiPending = v := rfl
@[simp] theorem State.setEi_clock (s : State) (v : Bool) : (s.setEi v).clock = s.clock := rfl
@[simp] theorem State.setEi_busy (s : State) (v : Bool) : (s.setEi v).busy = s.busy := rfl
@[simp] theorem State.setEi_outcome (s : State) (v : Bool) : (s.setEi v).outcome = s.outcome := rfl
@[simp] theorem State.setEi_ifReg (s : State) (v : Bool) : (s.setEi v).ifReg = s.ifReg := rfl
@[simp] theorem State.setEi_ie (s : State) (v : Bool) : (s.setEi v).ie = s.ie := rfl
@[simp] theorem State.setEi_timer (s : State) (v : Bool) : (s.setEi v).timer = s.timer := rfl
@[simp] theorem State.setEi_ppu (s : State) (v : Bool) : (s.setEi v).ppu = s.ppu := rfl
@[simp] theorem State.setEi_ram (s : State) (v : Bool) : (s.setEi v).ram = s.ram := rfl
@[simp] theorem State.setEi_bootDisabled (s : State) (v : Bool) : (s.setEi v).bootDisabled = s.bootDisabled := rfl
@[simp] theorem State.setEi_cart (s : State) (v : Bool) : (s.setEi v).cart = s.cart := rfl
@[simp] theorem State.setEi_params (s : State) (v : Bool) : (s.setEi v).params = s.params := rfl
@[simp] theorem State.setEi_joypadMoves (s : State) (v : Bool) : (s.setEi v).joypadMoves = s.joypadMoves := rfl
@[simp] theorem State.setEi_joypadDraws (s : State) (v : Bool) : (s.setEi v).joypadDraws = s.joypadDraws := rfl
@[simp] theorem State.setEi_frameBit (s : State) (v : Bool) : (s.setEi v).frameBit = s.frameBit := rfl

@[simp] theorem State.setHalted_regs (s : State) (v : Bool) : (s.setHalted v).regs = s.regs := rfl
@[simp] theorem State.setHalted_sp (s : State) (v : Bool) : (s.setHalted v).sp = s.sp := rfl
@[simp] theorem State.setHalted_pc (s : State) (v : Bool) : (s.setHalted v).pc = s.pc := rfl
@[simp] theorem State.setHalted_halted (s : State) (v : Bool) : (s.setHalted v).halted = v := rfl
@[simp] theorem State.setHalted_stopped (s : State) (v : Bool) : (s.setHalted v).stopped = s.stopped := rfl
@[simp] theorem State.setHalted_ime (s : State) (v : Bool) : (s.setHalted v).ime = s.ime := rfl
@[simp] theorem State.setHalted_eiPending (s : State) (v : Bool) : (s.setHalted v).eiPending = s.eiPending := rfl
@[simp] theorem State.setHalted_clock (s : State) (v : Bool) : (s.setHalted v).clock = s.clock := rfl
@[simp] theorem State.setHalted_busy (s : State) (v : Bool) : (s.setHalted v).busy = s.busy := rfl
@[simp] theorem State.setHalted_outcome (s : State) (v : Bool) : (s.setHalted v).outcome = s.outcome := rfl
@[simp] theorem State.setHalted_ifReg (s : State) (v : Bool) : (s.setHalted v).ifReg = s.ifReg := rfl
@[simp] theorem State.setHalted_ie (s : State) (v : Bool) : (s.setHalted v).ie = s.ie := rfl
@[simp] theorem State.setHalted_timer (s : State) (v : Bool) : (s.setHalted v).timer = s.timer := rfl
@[simp] theorem State.setHalted_ppu (s : State) (v : Bool) : (s.setHalted v).ppu = s.ppu := rfl
@[simp] theorem State.setHalted_ram (s : State) (v : Bool) : (s.setHalted v).ram = s.ram := rfl
@[simp] theorem State.setHalted_bootDisabled (s : State) (v : Bool) : (s.setHalted v).bootDisabled = s.bootDisabled := rfl
@[simp] theorem State.setHalted_cart (s : State) (v : Bool) : (s.setHalted v).cart = s.cart := rfl
@[simp] theorem State.setHalted_params (s : State) (v : Bool) : (s.setHalted v).params = s.params := rfl
@[simp] theorem State.setHalted_joypadMoves (s : State) (v : Bool) : (s.setHalted v).joypadMoves = s.joypadMoves := rfl
@[simp] theorem State.setHalted_joypadDraws (s : State) (v : Bool) : (s.setHalted v).joypadDraws = s.joypadDraws := rfl
@[simp] theorem State.setHalted_frameBit (s : State) (v : Bool) : (s.setHalted v).frameBit = s.frameBit := rfl

@[simp] theorem State.setStopped_regs (s : State) (v : Bool) : (s.setStopped v).regs = s.regs := rfl
@[simp] theorem State.setStopped_sp (s : State) (v : Bool) : (s.setStopped v).sp = s.sp := rfl
@[simp] theorem State.setStopped_pc (s : State) (v : Bool) : (s.setStopped v).pc = s.pc := rfl
@[simp] theorem State.setStopped_halted (s : State) (v : Bool) : (s.setStopped v).halted = s.halted := rfl
@[simp] theorem State.setStopped_stopped (s : State) (v : Bool) : (s.setStopped v).stopped = v := rfl
@[simp] theorem State.setStopped_ime (s : State) (v : Bool) : (s.setStopped v).ime = s.ime := rfl
@[simp] theorem State.setStopped_eiPending (s : State) (v : Bool) : (s.setStopped v).eiPending = s.eiPending := rfl
@[simp] theorem State.setStopped_clock (s : State) (v : Bool) : (s.setStopped v).clock = s.clock := rfl
@[simp] theorem State.setStopped_busy (s : State) (v : Bool) : (s.setStopped v).busy = s.busy := rfl
@[simp] theorem State.setStopped_outcome (s : State) (v : Bool) : (s.setStopped v).outcome = s.outcome := rfl
@[simp] theorem State.setStopped_ifReg (s : State) (v : Bool) : (s.setStopped v).ifReg = s.ifReg := rfl
@[simp] theorem State.setStopped_ie (s : State) (v : Bool) : (s.setStopped v).ie = s.ie := rfl
@[simp] theorem State.setStopped_timer (s : State) (v : Bool) : (s.setStopped v).timer = s.timer := rfl
@[simp] theorem State.setStopped_ppu (s : State) (v : Bool) : (s.setStopped v).ppu = s.ppu := rfl
@[simp] theorem State.setStopped_ram (s : State) (v : Bool) : (s.setStopped v).ram = s.ram := rfl
@[simp] theorem State.setStopped_bootDisabled (s : State) (v : Bool) : (s.setStopped v).bootDisabled = s.bootDisabled := rfl
@[simp] theorem State.setStopped_cart (s : State) (v : Bool) : (s.setStopped v).cart = s.cart := rfl
@[simp] theorem State.setStopped_params (s : State) (v : Bool) : (s.setStopped v).params = s.params := rfl
@[simp] theorem State.setStopped_joypadMoves (s : State) (v : Bool) : (s.setStopped v).joypadMoves = s.joypadMoves := rfl
@[simp] theorem State.setStopped_joypadDraws (s : State) (v : Bool) : (s.setStopped v).joypadDraws = s.joypadDraws := rfl
@[simp] theorem State.setStopped_frameBit (s : State) (v : Bool) : (s.setStopped v).frameBit = s.frameBit := rfl

@[simp] theorem State.setOutcome_regs (s : State) (v : RunOutcome) : (s.setOutcome v).regs = s.regs := rfl
@[simp] theorem State.setOutcome_sp (s : State) (v : RunOutcome) : (s.setOutcome v).sp = s.sp := rfl
@[simp] theorem State.setOutcome_pc (s : State) (v : RunOutcome) : (s.setOutcome v).pc = s.pc := rfl
@[simp] theorem State.setOutcome_halted (s : State) (v : RunOutcome) : (s.setOutcome v).halted = s.halted := rfl
@[simp] theorem State.setOutcome_stopped (s : State) (v : RunOutcome) : (s.setOutcome v).stopped = s.stopped := rfl
@[simp] theorem State.setOutcome_ime (s : State) (v : RunOutcome) : (s.setOutcome v).ime = s.ime := rfl
@[simp] theorem State.setOutcome_eiPending (s : State) (v : RunOutcome) : (s.setOutcome v).eiPending = s.eiPending := rfl
@[simp] theorem State.setOutcome_clock (s : State) (v : RunOutcome) : (s.setOutcome v).clock = s.clock := rfl
@[simp] theorem State.setOutcome_busy (s : State) (v : RunOutcome) : (s.setOutcome v).busy = s.busy := rfl
@[simp] theorem State.setOutcome_outcome (s : State) (v : RunOutcome) : (s.setOutcome v).outcome = v := rfl
@[simp] theorem State.setOutcome_ifReg (s : State) (v : RunOutcome) : (s.setOutcome v).ifReg = s.ifReg := rfl
@[simp] theorem State.setOutcome_ie (s : State) (v : RunOutcome) : (s.setOutcome v).ie = s.ie := rfl
@[simp] theorem State.setOutcome_timer (s : State) (v : RunOutcome) : (s.setOutcome v).timer = s.timer := rfl
@[simp] theorem State.setOutcome_ppu (s : State) (v : RunOutcome) : (s.setOutcome v).ppu = s.ppu := rfl
@[simp] theorem State.setOutcome_ram (s : State) (v : RunOutcome) : (s.setOutcome v).ram = s.ram := rfl
@[simp] theorem State.setOutcome_bootDisabled (s : State) (v : RunOutcome) : (s.setOutcome v).bootDisabled = s.bootDisabled := rfl
@[simp] theorem State.setOutcome_cart (s : State) (v : RunOutcome) : (s.setOutcome v).cart = s.cart := rfl
@[simp] theorem State.setOutcome_params (s : State) (v : RunOutcome) : (s.setOutcome v).params = s.params := rfl
@[simp] theorem State.setOutcome_joypadMoves (s : State) (v : RunOutcome) : (s.setOutcome v).joypadMoves = s.joypadMoves := rfl
@[simp] theorem State.setOutcome_joypadDraws (s : State) (v : RunOutcome) : (s.setOutcome v).joypadDraws = s.joypadDraws := rfl
@[simp] theorem State.setOutcome_frameBit (s : State) (v : RunOutcome) : (s.setOutcome v).frameBit = s.frameBit := rfl

@[simp] theorem State.setIf_regs (s : State) (v : BitVec 5) : (s.setIf v).regs = s.regs := rfl
@[simp] theorem State.setIf_sp (s : State) (v : BitVec 5) : (s.setIf v).sp = s.sp := rfl
@[simp] theorem State.setIf_pc (s : State) (v : BitVec 5) : (s.setIf v).pc = s.pc := rfl
@[simp] theorem State.setIf_halted (s : State) (v : BitVec 5) : (s.setIf v).halted = s.halted := rfl
@[simp] theorem State.setIf_stopped (s : State) (v : BitVec 5) : (s.setIf v).stopped = s.stopped := rfl
@[simp] theorem State.setIf_ime (s : State) (v : BitVec 5) : (s.setIf v).ime = s.ime := rfl
@[simp] theorem State.setIf_eiPending (s : State) (v : BitVec 5) : (s.setIf v).eiPending = s.eiPending := rfl
@[simp] theorem State.setIf_clock (s : State) (v : BitVec 5) : (s.setIf v).clock = s.clock := rfl
@[simp] theorem State.setIf_busy (s : State) (v : BitVec 5) : (s.setIf v).busy = s.busy := rfl
@[simp] theorem State.setIf_outcome (s : State) (v : BitVec 5) : (s.setIf v).outcome = s.outcome := rfl
@[simp] theorem State.setIf_ifReg (s : State) (v : BitVec 5) : (s.setIf v).ifReg = v := rfl
@[simp] theorem State.setIf_ie (s : State) (v : BitVec 5) : (s.setIf v).ie = s.ie := rfl
@[simp] theorem State.setIf_timer (s : State) (v : BitVec 5) : (s.setIf v).timer = s.timer := rfl
@[simp] theorem State.setIf_ppu (s : State) (v : BitVec 5) : (s.setIf v).ppu = s.ppu := rfl
@[simp] theorem State.setIf_ram (s : State) (v : BitVec 5) : (s.setIf v).ram = s.ram := rfl
@[simp] theorem State.setIf_bootDisabled (s : State) (v : BitVec 5) : (s.setIf v).bootDisabled = s.bootDisabled := rfl
@[simp] theorem State.setIf_cart (s : State) (v : BitVec 5) : (s.setIf v).cart = s.cart := rfl
@[simp] theorem State.setIf_params (s : State) (v : BitVec 5) : (s.setIf v).params = s.params := rfl
@[simp] theorem State.setIf_joypadMoves (s : State) (v : BitVec 5) : (s.setIf v).joypadMoves = s.joypadMoves := rfl
@[simp] theorem State.setIf_joypadDraws (s : State) (v : BitVec 5) : (s.setIf v).joypadDraws = s.joypadDraws := rfl
@[simp] theorem State.setIf_frameBit (s : State) (v : BitVec 5) : (s.setIf v).frameBit = s.frameBit := rfl

@[simp] theorem State.setIe_regs (s : State) (v : Byte) : (s.setIe v).regs = s.regs := rfl
@[simp] theorem State.setIe_sp (s : State) (v : Byte) : (s.setIe v).sp = s.sp := rfl
@[simp] theorem State.setIe_pc (s : State) (v : Byte) : (s.setIe v).pc = s.pc := rfl
@[simp] theorem State.setIe_halted (s : State) (v : Byte) : (s.setIe v).halted = s.halted := rfl
@[simp] theorem State.setIe_stopped (s : State) (v : Byte) : (s.setIe v).stopped = s.stopped := rfl
@[simp] theorem State.setIe_ime (s : State) (v : Byte) : (s.setIe v).ime = s.ime := rfl
@[simp] theorem State.setIe_eiPending (s : State) (v : Byte) : (s.setIe v).eiPending = s.eiPending := rfl
@[simp] theorem State.setIe_clock (s : State) (v : Byte) : (s.setIe v).clock = s.clock := rfl
@[simp] theorem State.setIe_busy (s : State) (v : Byte) : (s.setIe v).busy = s.busy := rfl
@[simp] theorem State.setIe_outcome (s : State) (v : Byte) : (s.setIe v).outcome = s.outcome := rfl
@[simp] theorem State.setIe_ifReg (s : State) (v : Byte) : (s.setIe v).ifReg = s.ifReg := rfl
@[simp] theorem State.setIe_ie (s : State) (v : Byte) : (s.setIe v).ie = v := rfl
@[simp] theorem State.setIe_timer (s : State) (v : Byte) : (s.setIe v).timer = s.timer := rfl
@[simp] theorem State.setIe_ppu (s : State) (v : Byte) : (s.setIe v).ppu = s.ppu := rfl
@[simp] theorem State.setIe_ram (s : State) (v : Byte) : (s.setIe v).ram = s.ram := rfl
@[simp] theorem State.setIe_bootDisabled (s : State) (v : Byte) : (s.setIe v).bootDisabled = s.bootDisabled := rfl
@[simp] theorem State.setIe_cart (s : State) (v : Byte) : (s.setIe v).cart = s.cart := rfl
@[simp] theorem State.setIe_params (s : State) (v : Byte) : (s.setIe v).params = s.params := rfl
@[simp] theorem State.setIe_joypadMoves (s : State) (v : Byte) : (s.setIe v).joypadMoves = s.joypadMoves := rfl
@[simp] theorem State.setIe_joypadDraws (s : State) (v : Byte) : (s.setIe v).joypadDraws = s.joypadDraws := rfl
@[simp] theorem State.setIe_frameBit (s : State) (v : Byte) : (s.setIe v).frameBit = s.frameBit := rfl

@[simp] theorem State.setRam_regs (s : State) (v : Memory) : (s.setRam v).regs = s.regs := rfl
@[simp] theorem State.setRam_sp (s : State) (v : Memory) : (s.setRam v).sp = s.sp := rfl
@[simp] theorem State.setRam_pc (s : State) (v : Memory) : (s.setRam v).pc = s.pc := rfl
@[simp] theorem State.setRam_halted (s : State) (v : Memory) : (s.setRam v).halted = s.halted := rfl
@[simp] theorem State.setRam_stopped (s : State) (v : Memory) : (s.setRam v).stopped = s.stopped := rfl
@[simp] theorem State.setRam_ime (s : State) (v : Memory) : (s.setRam v).ime = s.ime := rfl
@[simp] theorem State.setRam_eiPending (s : State) (v : Memory) : (s.setRam v).eiPending = s.eiPending := rfl
@[simp] theorem State.setRam_clock (s : State) (v : Memory) : (s.setRam v).clock = s.clock := rfl
@[simp] theorem State.setRam_busy (s : State) (v : Memory) : (s.setRam v).busy = s.busy := rfl
@[simp] theorem State.setRam_outcome (s : State) (v : Memory) : (s.setRam v).outcome = s.outcome := rfl
@[simp] theorem State.setRam_ifReg (s : State) (v : Memory) : (s.setRam v).ifReg = s.ifReg := rfl
@[simp] theorem State.setRam_ie (s : State) (v : Memory) : (s.setRam v).ie = s.ie := rfl
@[simp] theorem State.setRam_timer (s : State) (v : Memory) : (s.setRam v).timer = s.timer := rfl
@[simp] theorem State.setRam_ppu (s : State) (v : Memory) : (s.setRam v).ppu = s.ppu := rfl
@[simp] theorem State.setRam_ram (s : State) (v : Memory) : (s.setRam v).ram = v := rfl
@[simp] theorem State.setRam_bootDisabled (s : State) (v : Memory) : (s.setRam v).bootDisabled = s.bootDisabled := rfl
@[simp] theorem State.setRam_cart (s : State) (v : Memory) : (s.setRam v).cart = s.cart := rfl
@[simp] theorem State.setRam_params (s : State) (v : Memory) : (s.setRam v).params = s.params := rfl
@[simp] theorem State.setRam_joypadMoves (s : State) (v : Memory) : (s.setRam v).joypadMoves = s.joypadMoves := rfl
@[simp] theorem State.setRam_joypadDraws (s : State) (v : Memory) : (s.setRam v).joypadDraws = s.joypadDraws := rfl
@[simp] theorem State.setRam_frameBit (s : State) (v : Memory) : (s.setRam v).frameBit = s.frameBit := rfl

@[simp] theorem State.setCart_regs (s : State) (v : Cart) : (s.setCart v).regs = s.regs := rfl
@[simp] theorem State.setCart_sp (s : State) (v : Cart) : (s.setCart v).sp = s.sp := rfl
@[simp] theorem State.setCart_pc (s : State) (v : Cart) : (s.setCart v).pc = s.pc := rfl
@[simp] theorem State.setCart_halted (s : State) (v : Cart) : (s.setCart v).halted = s.halted := rfl
@[simp] theorem State.setCart_stopped (s : State) (v : Cart) : (s.setCart v).stopped = s.stopped := rfl
@[simp] theorem State.setCart_ime (s : State) (v : Cart) : (s.setCart v).ime = s.ime := rfl
@[simp] theorem State.setCart_eiPending (s : State) (v : Cart) : (s.setCart v).eiPending = s.eiPending := rfl
@[simp] theorem State.setCart_clock (s : State) (v : Cart) : (s.setCart v).clock = s.clock := rfl
@[simp] theorem State.setCart_busy (s : State) (v : Cart) : (s.setCart v).busy = s.busy := rfl
@[simp] theorem State.setCart_outcome (s : State) (v : Cart) : (s.setCart v).outcome = s.outcome := rfl
@[simp] theorem State.setCart_ifReg (s : State) (v : Cart) : (s.setCart v).ifReg = s.ifReg := rfl
@[simp] theorem State.setCart_ie (s : State) (v : Cart) : (s.setCart v).ie = s.ie := rfl
@[simp] theorem State.setCart_timer (s : State) (v : Cart) : (s.setCart v).timer = s.timer := rfl
@[simp] theorem State.setCart_ppu (s : State) (v : Cart) : (s.setCart v).ppu = s.ppu := rfl
@[simp] theorem State.setCart_ram (s : State) (v : Cart) : (s.setCart v).ram = s.ram := rfl
@[simp] theorem State.setCart_bootDisabled (s : State) (v : Cart) : (s.setCart v).bootDisabled = s.bootDisabled := rfl
@[simp] theorem State.setCart_cart (s : State) (v : Cart) : (s.setCart v).cart = v := rfl
@[simp] theorem State.setCart_params (s : State) (v : Cart) : (s.setCart v).params = s.params := rfl
@[simp] theorem State.setCart_joypadMoves (s : State) (v : Cart) : (s.setCart v).joypadMoves = s.joypadMoves := rfl
@[simp] theorem State.setCart_joypadDraws (s : State) (v : Cart) : (s.setCart v).joypadDraws = s.joypadDraws := rfl
@[simp] theorem State.setCart_frameBit (s : State) (v : Cart) : (s.setCart v).frameBit = s.frameBit := rfl

@[simp] theorem State.setTimer_regs (s : State) (v : Timer) : (s.setTimer v).regs = s.regs := rfl
@[simp] theorem State.setTimer_sp (s : State) (v : Timer) : (s.setTimer v).sp = s.sp := rfl
@[simp] theorem State.setTimer_pc (s : State) (v : Timer) : (s.setTimer v).pc = s.pc := rfl
@[simp] theorem State.setTimer_halted (s : State) (v : Timer) : (s.setTimer v).halted = s.halted := rfl
@[simp] theorem State.setTimer_stopped (s : State) (v : Timer) : (s.setTimer v).stopped = s.stopped := rfl
@[simp] theorem State.setTimer_ime (s : State) (v : Timer) : (s.setTimer v).ime = s.ime := rfl
@[simp] theorem State.setTimer_eiPending (s : State) (v : Timer) : (s.setTimer v).eiPending = s.eiPending := rfl
@[simp] theorem State.setTimer_clock (s : State) (v : Timer) : (s.setTimer v).clock = s.clock := rfl
@[simp] theorem State.setTimer_busy (s : State) (v : Timer) : (s.setTimer v).busy = s.busy := rfl
@[simp] theorem State.setTimer_outcome (s : State) (v : Timer) : (s.setTimer v).outcome = s.outcome := rfl
@[simp] theorem State.setTimer_ifReg (s : State) (v : Timer) : (s.setTimer v).ifReg = s.ifReg := rfl
@[simp] theorem State.setTimer_ie (s : State) (v : Timer) : (s.setTimer v).ie = s.ie := rfl
@[simp] theorem State.setTimer_timer (s : State) (v : Timer) : (s.setTimer v).timer = v := rfl
@[simp] theorem State.setTimer_ppu (s : State) (v : Timer) : (s.setTimer v).ppu = s.ppu := rfl
@[simp] theorem State.setTimer_ram (s : State) (v : Timer) : (s.setTimer v).ram = s.ram := rfl
@[simp] theorem State.setTimer_bootDisabled (s : State) (v : Timer) : (s.setTimer v).bootDisabled = s.bootDisabled := rfl
@[simp] theorem State.setTimer_cart (s : State) (v : Timer) : (s.setTimer v).cart = s.cart := rfl
@[simp] theorem State.setTimer_params (s : State) (v : Timer) : (s.setTimer v).params = s.params := rfl
@[simp] theorem State.setTimer_joypadMoves (s : State) (v : Timer) : (s.setTimer v).joypadMoves = s.joypadMoves := rfl
@[simp] theorem State.setTimer_joypadDraws (s : State) (v : Timer) : (s.setTimer v).joypadDraws = s.joypadDraws := rfl
@[simp] theorem State.setTimer_frameBit (s : State) (v : Timer) : (s.setTimer v).frameBit = s.frameBit := rfl

@[simp] theorem State.setPpu_regs (s : State) (v : Ppu) : (s.setPpu v).regs = s.regs := rfl
@[simp] theorem State.setPpu_sp (s : State) (v : Ppu) : (s.setPpu v).sp = s.sp := rfl
@[simp] theorem State.setPpu_pc (s : State) (v : Ppu) : (s.setPpu v).pc = s.pc := rfl
@[simp] theorem State.setPpu_halted (s : State) (v : Ppu) : (s.setPpu v).halted = s.halted := rfl
@[simp] theorem State.setPpu_stopped (s : State) (v : Ppu) : (s.setPpu v).stopped = s.stopped := rfl
@[simp] theorem State.setPpu_ime (s : State) (v : Ppu) : (s.setPpu v).ime = s.ime := rfl
@[simp] theorem State.setPpu_eiPending (s : State) (v : Ppu) : (s.setPpu v).eiPending = s.eiPending := rfl
@[simp] theorem State.setPpu_clock (s : State) (v : Ppu) : (s.setPpu v).clock = s.clock := rfl
@[simp] theorem State.setPpu_busy (s : State) (v : Ppu) : (s.setPpu v).busy = s.busy := rfl
@[simp] theorem State.setPpu_outcome (s : State) (v : Ppu) : (s.setPpu v).outcome = s.outcome := rfl
@[simp] theorem State.setPpu_ifReg (s : State) (v : Ppu) : (s.setPpu v).ifReg = s.ifReg := rfl
@[simp] theorem State.setPpu_ie (s : State) (v : Ppu) : (s.setPpu v).ie = s.ie := rfl
@[simp] theorem State.setPpu_timer (s : State) (v : Ppu) : (s.setPpu v).timer = s.timer := rfl
@[simp] theorem State.setPpu_ppu (s : State) (v : Ppu) : (s.setPpu v).ppu = v := rfl
@[simp] theorem State.setPpu_ram (s : State) (v : Ppu) : (s.setPpu v).ram = s.ram := rfl
@[simp] theorem State.setPpu_bootDisabled (s : State) (v : Ppu) : (s.setPpu v).bootDisabled = s.bootDisabled := rfl
@[simp] theorem State.setPpu_cart (s : State) (v : Ppu) : (s.setPpu v).cart = s.cart := rfl
@[simp] theorem State.setPpu_params (s : State) (v : Ppu) : (s.setPpu v).params = s.params := rfl
@[simp] theorem State.setPpu_joypadMoves (s : State) (v : Ppu) : (s.setPpu v).joypadMoves = s.joypadMoves := rfl
@[simp] theorem State.setPpu_joypadDraws (s : State) (v : Ppu) : (s.setPpu v).joypadDraws = s.joypadDraws := rfl
@[simp] theorem State.setPpu_frameBit (s : State) (v : Ppu) : (s.setPpu v).frameBit = s.frameBit := rfl

@[simp] theorem State.disableBoot_regs (s : State) : s.disableBoot.regs = s.regs := rfl
@[simp] theorem State.disableBoot_sp (s : State) : s.disableBoot.sp = s.sp := rfl
@[simp] theorem State.disableBoot_pc (s : State) : s.disableBoot.pc = s.pc := rfl
@[simp] theorem State.disableBoot_halted (s : State) : s.disableBoot.halted = s.halted := rfl
@[simp] theorem State.disableBoot_stopped (s : State) : s.disableBoot.stopped = s.stopped := rfl
@[simp] theorem State.disableBoot_ime (s : State) : s.disableBoot.ime = s.ime := rfl
@[simp] theorem State.disableBoot_eiPending (s : State) : s.disableBoot.eiPending = s.eiPending := rfl
@[simp] theorem State.disableBoot_clock (s : State) : s.disableBoot.clock = s.clock := rfl
@[simp] theorem State.disableBoot_busy (s : State) : s.disableBoot.busy = s.busy := rfl
@[simp] theorem State.disableBoot_outcome (s : State) : s.disableBoot.outcome = s.outcome := rfl
@[simp] theorem State.disableBoot_ifReg (s : State) : s.disableBoot.ifReg = s.ifReg := rfl
@[simp] theorem State.disableBoot_ie (s : State) : s.disableBoot.ie = s.ie := rfl
@[simp] theorem State.disableBoot_timer (s : State) : s.disableBoot.timer = s.timer := rfl
@[simp] theorem State.disableBoot_ppu (s : State) : s.disableBoot.ppu = s.ppu := rfl
@[simp] theorem State.disableBoot_ram (s : State) : s.disableBoot.ram = s.ram := rfl
@[simp] theorem State.disableBoot_bootDisabled (s : State) : s.disableBoot.bootDisabled = true := rfl
@[simp] theorem State.disableBoot_cart (s : State) : s.disableBoot.cart = s.cart := rfl
@[simp] theorem State.disableBoot_params (s : State) : s.disableBoot.params = s.params := rfl
@[simp] theorem State.disableBoot_joypadMoves (s : State) : s.disableBoot.joypadMoves = s.joypadMoves := rfl
@[simp] theorem State.disableBoot_joypadDraws (s : State) : s.disableBoot.joypadDraws = s.joypadDraws := rfl
@[simp] theorem State.disableBoot_frameBit (s : State) : s.disableBoot.frameBit = s.frameBit := rfl

@[simp] theorem State.set8_sp (s : State) (r : Reg8) (v : Byte) : (s.set8 r v).sp = s.sp := by cases r <;> rfl
@[simp] theorem State.set8_pc (s : State) (r : Reg8) (v : Byte) : (s.set8 r v).pc = s.pc := by cases r <;> rfl
@[simp] theorem State.set8_halted (s : State) (r : Reg8) (v : Byte) : (s.set8 r v).halted = s.halted := by cases r <;> rfl
@[simp] theorem State.set8_stopped (s : State) (r : Reg8) (v : Byte) : (s.set8 r v).stopped = s.stopped := by cases r <;> rfl
@[simp] theorem State.set8_ime (s : State) (r : Reg8) (v : Byte) : (s.set8 r v).ime = s.ime := by cases r <;> rfl
@[simp] theorem State.set8_eiPending (s : State) (r : Reg8) (v : Byte) : (s.set8 r v).eiPending = s.eiPending := by cases r <;> rfl
@[simp] theorem State.set8_clock (s : State) (r : Reg8) (v : Byte) : (s.set8 r v).clock = s.clock := by cases r <;> rfl
@[simp] theorem State.set8_busy (s : State) (r : Reg8) (v : Byte) : (s.set8 r v).busy = s.busy := by cases r <;> rfl
@[simp] theorem State.set8_outcome (s : State) (r : Reg8) (v : Byte) : (s.set8 r v).outcome = s.outcome := by cases r <;> rfl
@[simp] theorem State.set8_ifReg (s : State) (r : Reg8) (v : Byte) : (s.set8 r v).ifReg = s.ifReg := by cases r <;> rfl
@[simp] theorem State.set8_ie (s : State) (r : Reg8) (v : Byte) : (s.set8 r v).ie = s.ie := by cases r <;> rfl
@[simp] theorem State.set8_timer (s : State) (r : Reg8) (v : Byte) : (s.set8 r v).timer = s.timer := by cases r <;> rfl
@[simp] theorem State.set8_ppu (s : State) (r : Reg8) (v : Byte) : (s.set8 r v).ppu = s.ppu := by cases r <;> rfl
@[simp] theorem State.set8_ram (s : State) (r : Reg8) (v : Byte) : (s.set8 r v).ram = s.ram := by cases r <;> rfl
@[simp] theorem State.set8_bootDisabled (s : State) (r : Reg8) (v : Byte) : (s.set8 r v).bootDisabled = s.bootDisabled := by cases r <;> rfl
@[simp] theorem State.set8_cart (s : State) (r : Reg8) (v : Byte) : (s.set8 r v).cart = s.cart := by cases r <;> rfl
@[simp] theorem State.set8_params (s : State) (r : Reg8) (v : Byte) : (s.set8 r v).params = s.params := by cases r <;> rfl
@[simp] theorem State.set8_joypadMoves (s : State) (r : Reg8) (v : Byte) : (s.set8 r v).joypadMoves = s.joypadMoves := by cases r <;> rfl
@[simp] theorem State.set8_joypadDraws (s : State) (r : Reg8) (v : Byte) : (s.set8 r v).joypadDraws = s.joypadDraws := by cases r <;> rfl
@[simp] theorem State.set8_frameBit (s : State) (r : Reg8) (v : Byte) : (s.set8 r v).frameBit = s.frameBit := by cases r <;> rfl

@[simp] theorem State.setF_sp (s : State) (v : Byte) : (s.setF v).sp = s.sp := rfl
@[simp] theorem State.setF_pc (s : State) (v : Byte) : (s.setF v).pc = s.pc := rfl
@[simp] theorem State.setF_halted (s : State) (v : Byte) : (s.setF v).halted = s.halted := rfl
@[simp] theorem State.setF_stopped (s : State) (v : Byte) : (s.setF v).stopped = s.stopped := rfl
@[simp] theorem State.setF_ime (s : State) (v : Byte) : (s.setF v).ime = s.ime := rfl
@[simp] theorem State.setF_eiPending (s : State) (v : Byte) : (s.setF v).eiPending = s.eiPending := rfl
@[simp] theorem State.setF_clock (s : State) (v : Byte) : (s.setF v).clock = s.clock := rfl
@[simp] theorem State.setF_busy (s : State) (v : Byte) : (s.setF v).busy = s.busy := rfl
@[simp] theorem State.setF_outcome (s : State) (v : Byte) : (s.setF v).outcome = s.outcome := rfl
@[simp] theorem State.setF_ifReg (s : State) (v : Byte) : (s.setF v).ifReg = s.ifReg := rfl
@[simp] theorem State.setF_ie (s : State) (v : Byte) : (s.setF v).ie = s.ie := rfl
@[simp] theorem State.setF_timer (s : State) (v : Byte) : (s.setF v).timer = s.timer := rfl
@[simp] theorem State.setF_ppu (s : State) (v : Byte) : (s.setF v).ppu = s.ppu := rfl
@[simp] theorem State.setF_ram (s : State) (v : Byte) : (s.setF v).ram = s.ram := rfl
@[simp] theorem State.setF_bootDisabled (s : State) (v : Byte) : (s.setF v).bootDisabled = s.bootDisabled := rfl
@[simp] theorem State.setF_cart (s : State) (v : Byte) : (s.setF v).cart = s.cart := rfl
@[simp] theorem State.setF_params (s : State) (v : Byte) : (s.setF v).params = s.params := rfl
@[simp] theorem State.setF_joypadMoves (s : State) (v : Byte) : (s.setF v).joypadMoves = s.joypadMoves := rfl
@[simp] theorem State.setF_joypadDraws (s : State) (v : Byte) : (s.setF v).joypadDraws = s.joypadDraws := rfl
@[simp] theorem State.setF_frameBit (s : State) (v : Byte) : (s.setF v).frameBit = s.frameBit := rfl

@[simp] theorem State.setFlags_sp (s : State) (z n h c : Bool) : (s.setFlags z n h c).sp = s.sp := rfl
@[simp] theorem State.setFlags_pc (s : State) (z n h c : Bool) : (s.setFlags z n h c).pc = s.pc := rfl
@[simp] theorem State.setFlags_halted (s : State) (z n h c : Bool) : (s.setFlags z n h c).halted = s.halted := rfl
@[simp] theorem State.setFlags_stopped (s : State) (z n h c : Bool) : (s.setFlags z n h c).stopped = s.stopped := rfl
@[simp] theorem State.setFlags_ime (s : State) (z n h c : Bool) : (s.setFlags z n h c).ime = s.ime := rfl
@[simp] theorem State.setFlags_eiPending (s : State) (z n h c : Bool) : (s.setFlags z n h c).eiPending = s.eiPending := rfl
@[simp] theorem State.setFlags_clock (s : State) (z n h c : Bool) : (s.setFlags z n h c).clock = s.clock := rfl
@[simp] theorem State.setFlags_busy (s : State) (z n h c : Bool) : (s.setFlags z n h c).busy = s.busy := rfl
@[simp] theorem State.setFlags_outcome (s : State) (z n h c : Bool) : (s.setFlags z n h c).outcome = s.outcome := rfl
@[simp] theorem State.setFlags_ifReg (s : State) (z n h c : Bool) : (s.setFlags z n h c).ifReg = s.ifReg := rfl
@[simp] theorem State.setFlags_ie (s : State) (z n h c : Bool) : (s.setFlags z n h c).ie = s.ie := rfl
@[simp] theorem State.setFlags_timer (s : State) (z n h c : Bool) : (s.setFlags z n h c).timer = s.timer := rfl
@[simp] theorem State.setFlags_ppu (s : State) (z n h c : Bool) : (s.setFlags z n h c).ppu = s.ppu := rfl
@[simp] theorem State.setFlags_ram (s : State) (z n h c : Bool) : (s.setFlags z n h c).ram = s.ram := rfl
@[simp] theorem State.setFlags_bootDisabled (s : State) (z n h c : Bool) : (s.setFlags z n h c).bootDisabled = s.bootDisabled := rfl
@[simp] theorem State.setFlags_cart (s : State) (z n h c : Bool) : (s.setFlags z n h c).cart = s.cart := rfl
@[simp] theorem State.setFlags_params (s : State) (z n h c : Bool) : (s.setFlags z n h c).params = s.params := rfl
@[simp] theorem State.setFlags_joypadMoves (s : State) (z n h c : Bool) : (s.setFlags z n h c).joypadMoves = s.joypadMoves := rfl
@[simp] theorem State.setFlags_joypadDraws (s : State) (z n h c : Bool) : (s.setFlags z n h c).joypadDraws = s.joypadDraws := rfl
@[simp] theorem State.setFlags_frameBit (s : State) (z n h c : Bool) : (s.setFlags z n h c).frameBit = s.frameBit := rfl

@[simp] theorem State.set16_pc (s : State) (rr : Reg16) (v : Word) : (s.set16 rr v).pc = s.pc := by cases rr <;> rfl
@[simp] theorem State.set16_halted (s : State) (rr : Reg16) (v : Word) : (s.set16 rr v).halted = s.halted := by cases rr <;> rfl
@[simp] theorem State.set16_stopped (s : State) (rr : Reg16) (v : Word) : (s.set16 rr v).stopped = s.stopped := by cases rr <;> rfl
@[simp] theorem State.set16_ime (s : State) (rr : Reg16) (v : Word) : (s.set16 rr v).ime = s.ime := by cases rr <;> rfl
@[simp] theorem State.set16_eiPending (s : State) (rr : Reg16) (v : Word) : (s.set16 rr v).eiPending = s.eiPending := by cases rr <;> rfl
@[simp] theorem State.set16_clock (s : State) (rr : Reg16) (v : Word) : (s.set16 rr v).clock = s.clock := by cases rr <;> rfl
@[simp] theorem State.set16_busy (s : State) (rr : Reg16) (v : Word) : (s.set16 rr v).busy = s.busy := by cases rr <;> rfl
@[simp] theorem State.set16_outcome (s : State) (rr : Reg16) (v : Word) : (s.set16 rr v).outcome = s.outcome := by cases rr <;> rfl
@[simp] theorem State.set16_ifReg (s : State) (rr : Reg16) (v : Word) : (s.set16 rr v).ifReg = s.ifReg := by cases rr <;> rfl
@[simp] theorem State.set16_ie (s : State) (rr : Reg16) (v : Word) : (s.set16 rr v).ie = s.ie := by cases rr <;> rfl
@[simp] theorem State.set16_timer (s : State) (rr : Reg16) (v : Word) : (s.set16 rr v).timer = s.timer := by cases rr <;> rfl
@[simp] theorem State.set16_ppu (s : State) (rr : Reg16) (v : Word) : (s.set16 rr v).ppu = s.ppu := by cases rr <;> rfl
@[simp] theorem State.set16_ram (s : State) (rr : Reg16) (v : Word) : (s.set16 rr v).ram = s.ram := by cases rr <;> rfl
@[simp] theorem State.set16_bootDisabled (s : State) (rr : Reg16) (v : Word) : (s.set16 rr v).bootDisabled = s.bootDisabled := by cases rr <;> rfl
@[simp] theorem State.set16_cart (s : State) (rr : Reg16) (v : Word) : (s.set16 rr v).cart = s.cart := by cases rr <;> rfl
@[simp] theorem State.set16_params (s : State) (rr : Reg16) (v : Word) : (s.set16 rr v).params = s.params := by cases rr <;> rfl
@[simp] theorem State.set16_joypadMoves (s : State) (rr : Reg16) (v : Word) : (s.set16 rr v).joypadMoves = s.joypadMoves := by cases rr <;> rfl
@[simp] theorem State.set16_joypadDraws (s : State) (rr : Reg16) (v : Word) : (s.set16 rr v).joypadDraws = s.joypadDraws := by cases rr <;> rfl
@[simp] theorem State.set16_frameBit (s : State) (rr : Reg16) (v : Word) : (s.set16 rr v).frameBit = s.frameBit := by cases rr <;> rfl

@[simp] theorem State.setStk_sp (s : State) (rr : RegStk) (v : Word) : (s.setStk rr v).sp = s.sp := by cases rr <;> rfl
@[simp] theorem State.setStk_pc (s : State) (rr : RegStk) (v : Word) : (s.setStk rr v).pc = s.pc := by cases rr <;> rfl
@[simp] theorem State.setStk_halted (s : State) (rr : RegStk) (v : Word) : (s.setStk rr v).halted = s.halted := by cases rr <;> rfl
@[simp] theorem State.setStk_stopped (s : State) (rr : RegStk) (v : Word) : (s.setStk rr v).stopped = s.stopped := by cases rr <;> rfl
@[simp] theorem State.setStk_ime (s : State) (rr : RegStk) (v : Word) : (s.setStk rr v).ime = s.ime := by cases rr <;> rfl
@[simp] theorem State.setStk_eiPending (s : State) (rr : RegStk) (v : Word) : (s.setStk rr v).eiPending = s.eiPending := by cases rr <;> rfl
@[simp] theorem State.setStk_clock (s : State) (rr : RegStk) (v : Word) : (s.setStk rr v).clock = s.clock := by cases rr <;> rfl
@[simp] theorem State.setStk_busy (s : State) (rr : RegStk) (v : Word) : (s.setStk rr v).busy = s.busy := by cases rr <;> rfl
@[simp] theorem State.setStk_outcome (s : State) (rr : RegStk) (v : Word) : (s.setStk rr v).outcome = s.outcome := by cases rr <;> rfl
@[simp] theorem State.setStk_ifReg (s : State) (rr : RegStk) (v : Word) : (s.setStk rr v).ifReg = s.ifReg := by cases rr <;> rfl
@[simp] theorem State.setStk_ie (s : State) (rr : RegStk) (v : Word) : (s.setStk rr v).ie = s.ie := by cases rr <;> rfl
@[simp] theorem State.setStk_timer (s : State) (rr : RegStk) (v : Word) : (s.setStk rr v).timer = s.timer := by cases rr <;> rfl
@[simp] theorem State.setStk_ppu (s : State) (rr : RegStk) (v : Word) : (s.setStk rr v).ppu = s.ppu := by cases rr <;> rfl
@[simp] theorem State.setStk_ram (s : State) (rr : RegStk) (v : Word) : (s.setStk rr v).ram = s.ram := by cases rr <;> rfl
@[simp] theorem State.setStk_bootDisabled (s : State) (rr : RegStk) (v : Word) : (s.setStk rr v).bootDisabled = s.bootDisabled := by cases rr <;> rfl
@[simp] theorem State.setStk_cart (s : State) (rr : RegStk) (v : Word) : (s.setStk rr v).cart = s.cart := by cases rr <;> rfl
@[simp] theorem State.setStk_params (s : State) (rr : RegStk) (v : Word) : (s.setStk rr v).params = s.params := by cases rr <;> rfl
@[simp] theorem State.setStk_joypadMoves (s : State) (rr : RegStk) (v : Word) : (s.setStk rr v).joypadMoves = s.joypadMoves := by cases rr <;> rfl
@[simp] theorem State.setStk_joypadDraws (s : State) (rr : RegStk) (v : Word) : (s.setStk rr v).joypadDraws = s.joypadDraws := by cases rr <;> rfl
@[simp] theorem State.setStk_frameBit (s : State) (rr : RegStk) (v : Word) : (s.setStk rr v).frameBit = s.frameBit := by cases rr <;> rfl

@[simp] theorem State.applyAlu_sp (s : State) (op : AluOp) (b : Byte) : (s.applyAlu op b).sp = s.sp := by cases op <;> rfl
@[simp] theorem State.applyAlu_pc (s : State) (op : AluOp) (b : Byte) : (s.applyAlu op b).pc = s.pc := by cases op <;> rfl
@[simp] theorem State.applyAlu_halted (s : State) (op : AluOp) (b : Byte) : (s.applyAlu op b).halted = s.halted := by cases op <;> rfl
@[simp] theorem State.applyAlu_stopped (s : State) (op : AluOp) (b : Byte) : (s.applyAlu op b).stopped = s.stopped := by cases op <;> rfl
@[simp] theorem State.applyAlu_ime (s : State) (op : AluOp) (b : Byte) : (s.applyAlu op b).ime = s.ime := by cases op <;> rfl
@[simp] theorem State.applyAlu_eiPending (s : State) (op : AluOp) (b : Byte) : (s.applyAlu op b).eiPending = s.eiPending := by cases op <;> rfl
@[simp] theorem State.applyAlu_clock (s : State) (op : AluOp) (b : Byte) : (s.applyAlu op b).clock = s.clock := by cases op <;> rfl
@[simp] theorem State.applyAlu_busy (s : State) (op : AluOp) (b : Byte) : (s.applyAlu op b).busy = s.busy := by cases op <;> rfl
@[simp] theorem State.applyAlu_outcome (s : State) (op : AluOp) (b : Byte) : (s.applyAlu op b).outcome = s.outcome := by cases op <;> rfl
@[simp] theorem State.applyAlu_ifReg (s : State) (op : AluOp) (b : Byte) : (s.applyAlu op b).ifReg = s.ifReg := by cases op <;> rfl
@[simp] theorem State.applyAlu_ie (s : State) (op : AluOp) (b : Byte) : (s.applyAlu op b).ie = s.ie := by cases op <;> rfl
@[simp] theorem State.applyAlu_timer (s : State) (op : AluOp) (b : Byte) : (s.applyAlu op b).timer = s.timer := by cases op <;> rfl
@[simp] theorem State.applyAlu_ppu (s : State) (op : AluOp) (b : Byte) : (s.applyAlu op b).ppu = s.ppu := by cases op <;> rfl
@[simp] theorem State.applyAlu_ram (s : State) (op : AluOp) (b : Byte) : (s.applyAlu op b).ram = s.ram := by cases op <;> rfl
@[simp] theorem State.applyAlu_bootDisabled (s : State) (op : AluOp) (b : Byte) : (s.applyAlu op b).bootDisabled = s.bootDisabled := by cases op <;> rfl
@[simp] theorem State.applyAlu_cart (s : State) (op : AluOp) (b : Byte) : (s.applyAlu op b).cart = s.cart := by cases op <;> rfl
@[simp] theorem State.applyAlu_params (s : State) (op : AluOp) (b : Byte) : (s.applyAlu op b).params = s.params := by cases op <;> rfl
@[simp] theorem State.applyAlu_joypadMoves (s : State) (op : AluOp) (b : Byte) : (s.applyAlu op b).joypadMoves = s.joypadMoves := by cases op <;> rfl
@[simp] theorem State.applyAlu_joypadDraws (s : State) (op : AluOp) (b : Byte) : (s.applyAlu op b).joypadDraws = s.joypadDraws := by cases op <;> rfl
@[simp] theorem State.applyAlu_frameBit (s : State) (op : AluOp) (b : Byte) : (s.applyAlu op b).frameBit = s.frameBit := by cases op <;> rfl

@[simp] theorem State.raiseInt_regs (s : State) (n : IntSource) : (s.raiseInt n).regs = s.regs := rfl
@[simp] theorem State.raiseInt_sp (s : State) (n : IntSource) : (s.raiseInt n).sp = s.sp := rfl
@[simp] theorem State.raiseInt_pc (s : State) (n : IntSource) : (s.raiseInt n).pc = s.pc := rfl
@[simp] theorem State.raiseInt_halted (s : State) (n : IntSource) : (s.raiseInt n).halted = s.halted := rfl
@[simp] theorem State.raiseInt_stopped (s : State) (n : IntSource) : (s.raiseInt n).stopped = s.stopped := rfl
@[simp] theorem State.raiseInt_ime (s : State) (n : IntSource) : (s.raiseInt n).ime = s.ime := rfl
@[simp] theorem State.raiseInt_eiPending (s : State) (n : IntSource) : (s.raiseInt n).eiPending = s.eiPending := rfl
@[simp] theorem State.raiseInt_clock (s : State) (n : IntSource) : (s.raiseInt n).clock = s.clock := rfl
@[simp] theorem State.raiseInt_busy (s : State) (n : IntSource) : (s.raiseInt n).busy = s.busy := rfl
@[simp] theorem State.raiseInt_outcome (s : State) (n : IntSource) : (s.raiseInt n).outcome = s.outcome := rfl
@[simp] theorem State.raiseInt_ifReg (s : State) (n : IntSource) : (s.raiseInt n).ifReg = s.ifReg ||| n.mask := rfl
@[simp] theorem State.raiseInt_ie (s : State) (n : IntSource) : (s.raiseInt n).ie = s.ie := rfl
@[simp] theorem State.raiseInt_timer (s : State) (n : IntSource) : (s.raiseInt n).timer = s.timer := rfl
@[simp] theorem State.raiseInt_ppu (s : State) (n : IntSource) : (s.raiseInt n).ppu = s.ppu := rfl
@[simp] theorem State.raiseInt_ram (s : State) (n : IntSource) : (s.raiseInt n).ram = s.ram := rfl
@[simp] theorem State.raiseInt_bootDisabled (s : State) (n : IntSource) : (s.raiseInt n).bootDisabled = s.bootDisabled := rfl
@[simp] theorem State.raiseInt_cart (s : State) (n : IntSource) : (s.raiseInt n).cart = s.cart := rfl
@[simp] theorem State.raiseInt_params (s : State) (n : IntSource) : (s.raiseInt n).params = s.params := rfl
@[simp] theorem State.raiseInt_joypadMoves (s : State) (n : IntSource) : (s.raiseInt n).joypadMoves = s.joypadMoves := rfl
@[simp] theorem State.raiseInt_joypadDraws (s : State) (n : IntSource) : (s.raiseInt n).joypadDraws = s.joypadDraws := rfl
@[simp] theorem State.raiseInt_frameBit (s : State) (n : IntSource) : (s.raiseInt n).frameBit = s.frameBit := rfl

@[simp] theorem raiseFault_regs (r : Fault) (s : State) : (raiseFault r s).regs = s.regs := rfl
@[simp] theorem raiseFault_sp (r : Fault) (s : State) : (raiseFault r s).sp = s.sp := rfl
@[simp] theorem raiseFault_pc (r : Fault) (s : State) : (raiseFault r s).pc = s.pc := rfl
@[simp] theorem raiseFault_halted (r : Fault) (s : State) : (raiseFault r s).halted = s.halted := rfl
@[simp] theorem raiseFault_stopped (r : Fault) (s : State) : (raiseFault r s).stopped = s.stopped := rfl
@[simp] theorem raiseFault_ime (r : Fault) (s : State) : (raiseFault r s).ime = s.ime := rfl
@[simp] theorem raiseFault_eiPending (r : Fault) (s : State) : (raiseFault r s).eiPending = s.eiPending := rfl
@[simp] theorem raiseFault_clock (r : Fault) (s : State) : (raiseFault r s).clock = s.clock := rfl
@[simp] theorem raiseFault_busy (r : Fault) (s : State) : (raiseFault r s).busy = s.busy := rfl
@[simp] theorem raiseFault_outcome (r : Fault) (s : State) : (raiseFault r s).outcome = .faulted r := rfl
@[simp] theorem raiseFault_ifReg (r : Fault) (s : State) : (raiseFault r s).ifReg = s.ifReg := rfl
@[simp] theorem raiseFault_ie (r : Fault) (s : State) : (raiseFault r s).ie = s.ie := rfl
@[simp] theorem raiseFault_timer (r : Fault) (s : State) : (raiseFault r s).timer = s.timer := rfl
@[simp] theorem raiseFault_ppu (r : Fault) (s : State) : (raiseFault r s).ppu = s.ppu := rfl
@[simp] theorem raiseFault_ram (r : Fault) (s : State) : (raiseFault r s).ram = s.ram := rfl
@[simp] theorem raiseFault_bootDisabled (r : Fault) (s : State) : (raiseFault r s).bootDisabled = s.bootDisabled := rfl
@[simp] theorem raiseFault_cart (r : Fault) (s : State) : (raiseFault r s).cart = s.cart := rfl
@[simp] theorem raiseFault_params (r : Fault) (s : State) : (raiseFault r s).params = s.params := rfl
@[simp] theorem raiseFault_joypadMoves (r : Fault) (s : State) : (raiseFault r s).joypadMoves = s.joypadMoves := rfl
@[simp] theorem raiseFault_joypadDraws (r : Fault) (s : State) : (raiseFault r s).joypadDraws = s.joypadDraws := rfl
@[simp] theorem raiseFault_frameBit (r : Fault) (s : State) : (raiseFault r s).frameBit = s.frameBit := rfl

@[simp] theorem refuseRun_regs (r : Refusal) (s : State) : (refuseRun r s).regs = s.regs := rfl
@[simp] theorem refuseRun_sp (r : Refusal) (s : State) : (refuseRun r s).sp = s.sp := rfl
@[simp] theorem refuseRun_pc (r : Refusal) (s : State) : (refuseRun r s).pc = s.pc := rfl
@[simp] theorem refuseRun_halted (r : Refusal) (s : State) : (refuseRun r s).halted = s.halted := rfl
@[simp] theorem refuseRun_stopped (r : Refusal) (s : State) : (refuseRun r s).stopped = s.stopped := rfl
@[simp] theorem refuseRun_ime (r : Refusal) (s : State) : (refuseRun r s).ime = s.ime := rfl
@[simp] theorem refuseRun_eiPending (r : Refusal) (s : State) : (refuseRun r s).eiPending = s.eiPending := rfl
@[simp] theorem refuseRun_clock (r : Refusal) (s : State) : (refuseRun r s).clock = s.clock := rfl
@[simp] theorem refuseRun_busy (r : Refusal) (s : State) : (refuseRun r s).busy = s.busy := rfl
@[simp] theorem refuseRun_outcome (r : Refusal) (s : State) : (refuseRun r s).outcome = .refused r := rfl
@[simp] theorem refuseRun_ifReg (r : Refusal) (s : State) : (refuseRun r s).ifReg = s.ifReg := rfl
@[simp] theorem refuseRun_ie (r : Refusal) (s : State) : (refuseRun r s).ie = s.ie := rfl
@[simp] theorem refuseRun_timer (r : Refusal) (s : State) : (refuseRun r s).timer = s.timer := rfl
@[simp] theorem refuseRun_ppu (r : Refusal) (s : State) : (refuseRun r s).ppu = s.ppu := rfl
@[simp] theorem refuseRun_ram (r : Refusal) (s : State) : (refuseRun r s).ram = s.ram := rfl
@[simp] theorem refuseRun_bootDisabled (r : Refusal) (s : State) : (refuseRun r s).bootDisabled = s.bootDisabled := rfl
@[simp] theorem refuseRun_cart (r : Refusal) (s : State) : (refuseRun r s).cart = s.cart := rfl
@[simp] theorem refuseRun_params (r : Refusal) (s : State) : (refuseRun r s).params = s.params := rfl
@[simp] theorem refuseRun_joypadMoves (r : Refusal) (s : State) : (refuseRun r s).joypadMoves = s.joypadMoves := rfl
@[simp] theorem refuseRun_joypadDraws (r : Refusal) (s : State) : (refuseRun r s).joypadDraws = s.joypadDraws := rfl
@[simp] theorem refuseRun_frameBit (r : Refusal) (s : State) : (refuseRun r s).frameBit = s.frameBit := rfl

@[simp] theorem afterRead_regs (s : State) (a : Word) : (afterRead s a).regs = s.regs := by unfold afterRead; split <;> rfl
@[simp] theorem afterRead_sp (s : State) (a : Word) : (afterRead s a).sp = s.sp := by unfold afterRead; split <;> rfl
@[simp] theorem afterRead_pc (s : State) (a : Word) : (afterRead s a).pc = s.pc := by unfold afterRead; split <;> rfl
@[simp] theorem afterRead_halted (s : State) (a : Word) : (afterRead s a).halted = s.halted := by unfold afterRead; split <;> rfl
@[simp] theorem afterRead_stopped (s : State) (a : Word) : (afterRead s a).stopped = s.stopped := by unfold afterRead; split <;> rfl
@[simp] theorem afterRead_ime (s : State) (a : Word) : (afterRead s a).ime = s.ime := by unfold afterRead; split <;> rfl
@[simp] theorem afterRead_eiPending (s : State) (a : Word) : (afterRead s a).eiPending = s.eiPending := by unfold afterRead; split <;> rfl
@[simp] theorem afterRead_clock (s : State) (a : Word) : (afterRead s a).clock = s.clock := by unfold afterRead; split <;> rfl
@[simp] theorem afterRead_busy (s : State) (a : Word) : (afterRead s a).busy = s.busy := by unfold afterRead; split <;> rfl
@[simp] theorem afterRead_outcome (s : State) (a : Word) : (afterRead s a).outcome = s.outcome := by unfold afterRead; split <;> rfl
@[simp] theorem afterRead_ifReg (s : State) (a : Word) : (afterRead s a).ifReg = s.ifReg := by unfold afterRead; split <;> rfl
@[simp] theorem afterRead_ie (s : State) (a : Word) : (afterRead s a).ie = s.ie := by unfold afterRead; split <;> rfl
@[simp] theorem afterRead_timer (s : State) (a : Word) : (afterRead s a).timer = s.timer := by unfold afterRead; split <;> rfl
@[simp] theorem afterRead_ppu (s : State) (a : Word) : (afterRead s a).ppu = s.ppu := by unfold afterRead; split <;> rfl
@[simp] theorem afterRead_ram (s : State) (a : Word) : (afterRead s a).ram = s.ram := by unfold afterRead; split <;> rfl
@[simp] theorem afterRead_bootDisabled (s : State) (a : Word) : (afterRead s a).bootDisabled = s.bootDisabled := by unfold afterRead; split <;> rfl
@[simp] theorem afterRead_cart (s : State) (a : Word) : (afterRead s a).cart = s.cart := by unfold afterRead; split <;> rfl
@[simp] theorem afterRead_params (s : State) (a : Word) : (afterRead s a).params = s.params := by unfold afterRead; split <;> rfl
@[simp] theorem afterRead_joypadMoves (s : State) (a : Word) : (afterRead s a).joypadMoves = s.joypadMoves := by unfold afterRead; split <;> rfl
@[simp] theorem afterRead_frameBit (s : State) (a : Word) : (afterRead s a).frameBit = s.frameBit := by unfold afterRead; split <;> rfl

end Sys2Proof.Machine
end

