-- ==== Sys2Proof/Laws/Bus.lean ====
section
/-! SUPPORT. What the bus operations can do, said once: what no access changes, what an access that ends the run leaves,
and which RAM bytes a write can change. -/

namespace Sys2Proof.Machine

/-! ## Sequencing -/

@[simp] theorem Access.bind_ok {α β : Type} (a : α) (s : State) (k : α → State → Access β) :
    (Access.ok a s).bind k = k a s := rfl

@[simp] theorem Access.bind_stop {α β : Type} (s : State) (k : α → State → Access β) :
    (Access.stop s).bind k = .stop s := rfl

@[simp] theorem Access.finish_ok (c : Nat) (u : Unit) (s : State) : (Access.ok u s).finish c = .next (s.setBusy c) := rfl

@[simp] theorem Access.finish_stop (c : Nat) (s : State) : (Access.stop s).finish c = .next s := rfl

/-- A sequence ends well only if its first access does. -/
theorem Access.bind_eq_ok {α β : Type} {x : Access α} {k : α → State → Access β} {b : β} {t : State}
    (h : x.bind k = .ok b t) : ∃ a u, x = .ok a u ∧ k a u = .ok b t := by
  cases x with
  | ok a u => exact ⟨a, u, rfl, h⟩
  | stop u => exact absurd h (by simp)

/-- A sequence stops in its first access or after it. -/
theorem Access.bind_eq_stop {α β : Type} {x : Access α} {k : α → State → Access β} {t : State}
    (h : x.bind k = .stop t) : x = .stop t ∨ ∃ a u, x = .ok a u ∧ k a u = .stop t := by
  cases x with
  | ok a u => exact .inr ⟨a, u, rfl, h⟩
  | stop u => exact .inl (by simpa using h)

/-- The state a sequence of accesses leaves, whether it ended the run or not. -/
def Access.after {α : Type} : Access α → State
  | .ok _ s => s
  | .stop s => s

@[simp] theorem Access.after_ok {α : Type} (a : α) (s : State) : (Access.ok a s).after = s := rfl
@[simp] theorem Access.after_stop {α : Type} (s : State) : (Access.stop s : Access α).after = s := rfl

/-- An instruction's answer is always a next state (R301: a fault is a record in it). -/
theorem Access.finish_next (c : Nat) (x : Access Unit) :
    ∃ t, x.finish c = .next t ∧ (t = x.after.setBusy c ∨ (x = .stop t)) := by
  cases x with
  | ok u s => exact ⟨_, rfl, .inl rfl⟩
  | stop s => exact ⟨_, rfl, .inr rfl⟩

/-! ## Where RAM keeps a byte -/

theorem region_cases (a : Word) :
    (region a = .rom ∧ a.toNat ≤ 0x7FFF) ∨ (region a = .vram ∧ 0x8000 ≤ a.toNat ∧ a.toNat ≤ 0x9FFF) ∨
    (region a = .cartRam ∧ 0xA000 ≤ a.toNat ∧ a.toNat ≤ 0xBFFF) ∨
    (region a = .wram ∧ 0xC000 ≤ a.toNat ∧ a.toNat ≤ 0xDFFF) ∨
    (region a = .echo ∧ 0xE000 ≤ a.toNat ∧ a.toNat ≤ 0xFDFF) ∨
    (region a = .oam ∧ 0xFE00 ≤ a.toNat ∧ a.toNat ≤ 0xFE9F) ∨
    (region a = .hole ∧ 0xFEA0 ≤ a.toNat ∧ a.toNat ≤ 0xFEFF) ∨
    (region a = .io ∧ 0xFF00 ≤ a.toNat ∧ a.toNat ≤ 0xFF7F) ∨
    (region a = .hram ∧ 0xFF80 ≤ a.toNat ∧ a.toNat ≤ 0xFFFE) ∨ (region a = .ie ∧ a.toNat = 0xFFFF) := by
  have ha := a.isLt
  unfold region
  repeat' split
  all_goals (simp; omega)

/-- The RAM regions keep their bytes at RAM addresses (R36, R56). -/
theorem isRamKey_ramKey {a : Word}
    (h : region a = .vram ∨ region a = .wram ∨ region a = .echo ∨ region a = .oam ∨ region a = .hram) :
    isRamKey (ramKey a) = true := by
  have hc := region_cases a
  rcases h with h | h | h | h | h <;> rw [h] at hc <;>
    simp only [reduceCtorEq, false_and, true_and, false_or, or_false] at hc <;>
    simp only [ramKey, h, isRamKey, Bool.or_eq_true, Bool.and_eq_true, decide_eq_true_eq] <;> omega

theorem ramKey_lt_dma {i : Nat} (h : i < 160) : isRamKey (0xFE00 + i) = true := by
  simp only [isRamKey, Bool.or_eq_true, Bool.and_eq_true, decide_eq_true_eq]; omega

/-! ## What no access changes -/

/-- The fields no bus access and no instruction changes, or changes only in one direction. -/
structure Kept (s t : State) : Prop where
  clock : t.clock = s.clock
  params : t.params = s.params
  joypadMoves : t.joypadMoves = s.joypadMoves
  frameBit : t.frameBit = s.frameBit
  mode : t.ppu.mode = s.ppu.mode
  modeClock : t.ppu.modeClock = s.ppu.modeClock
  line : t.ppu.line = s.ppu.line
  framebuffer : t.ppu.framebuffer = s.ppu.framebuffer
  variant : t.cart.variant = s.cart.variant
  rom : t.cart.rom = s.cart.rom
  boot : s.bootDisabled = true → t.bootDisabled = true
  ramGood : RamGood s.ram → RamGood t.ram

/-- The CPU's own fields, which no bus access changes. -/
structure CpuKept (s t : State) : Prop where
  regs : t.regs = s.regs
  sp : t.sp = s.sp
  pc : t.pc = s.pc
  halted : t.halted = s.halted
  stopped : t.stopped = s.stopped
  ime : t.ime = s.ime
  eiPending : t.eiPending = s.eiPending
  busy : t.busy = s.busy

theorem Kept.refl (s : State) : Kept s s := ⟨rfl, rfl, rfl, rfl, rfl, rfl, rfl, rfl, rfl, rfl, id, id⟩

theorem Kept.trans {s t u : State} (h : Kept s t) (k : Kept t u) : Kept s u :=
  ⟨k.clock.trans h.clock, k.params.trans h.params, k.joypadMoves.trans h.joypadMoves, k.frameBit.trans h.frameBit,
    k.mode.trans h.mode, k.modeClock.trans h.modeClock, k.line.trans h.line, k.framebuffer.trans h.framebuffer,
    k.variant.trans h.variant, k.rom.trans h.rom, fun b => k.boot (h.boot b), fun b => k.ramGood (h.ramGood b)⟩

theorem CpuKept.refl (s : State) : CpuKept s s := ⟨rfl, rfl, rfl, rfl, rfl, rfl, rfl, rfl⟩

theorem CpuKept.trans {s t u : State} (h : CpuKept s t) (k : CpuKept t u) : CpuKept s u :=
  ⟨k.regs.trans h.regs, k.sp.trans h.sp, k.pc.trans h.pc, k.halted.trans h.halted, k.stopped.trans h.stopped,
    k.ime.trans h.ime, k.eiPending.trans h.eiPending, k.busy.trans h.busy⟩

/-- The RAM bytes that differ are at the store addresses that reach RAM, or in OAM where 0xFF46 is stored to (R56, R62,
R72). -/
def RamDiff (stores : List Word) (s t : State) : Prop :=
  ∀ k, t.ram.read k ≠ s.ram.read k →
    (∃ a ∈ stores, plainRam s a = true ∧ ramKey a = k) ∨ (0xFF46 ∈ stores ∧ 0xFE00 ≤ k ∧ k < 0xFEA0)

theorem RamDiff.of_ram_eq {stores : List Word} {s t : State} (h : t.ram = s.ram) : RamDiff stores s t :=
  fun _ hk => absurd (by rw [h]) hk

theorem plainRam_of_kept {s t : State} (h : Kept s t) (a : Word) : plainRam t a = plainRam s a := by
  simp only [plainRam, vramLocked, oamLocked, h.params, h.mode]

theorem RamDiff.trans {as bs : List Word} {s t u : State} (hk : Kept s t) (h : RamDiff as s t) (k : RamDiff bs t u) :
    RamDiff (as ++ bs) s u := by
  intro x hx
  by_cases hxt : t.ram.read x = s.ram.read x
  · rcases k x (by rw [hxt]; exact hx) with ⟨a, ha, hp, hr⟩ | ⟨ha, hr⟩
    · exact .inl ⟨a, List.mem_append_right _ ha, by rwa [plainRam_of_kept hk] at hp, hr⟩
    · exact .inr ⟨List.mem_append_right _ ha, hr⟩
  · rcases h x hxt with ⟨a, ha, hp, hr⟩ | ⟨ha, hr⟩
    · exact .inl ⟨a, List.mem_append_left _ ha, hp, hr⟩
    · exact .inr ⟨List.mem_append_left _ ha, hr⟩

theorem RamDiff.congr_left {as : List Word} {s s' t : State} (h : RamDiff as s t) (hr : s'.ram = s.ram)
    (hp : ∀ a, plainRam s' a = plainRam s a) : RamDiff as s' t := by
  intro x hx
  rw [hr] at hx
  simpa only [hp] using h x hx

theorem RamDiff.congr_right {as : List Word} {s t t' : State} (h : RamDiff as s t) (hr : t'.ram = t.ram) :
    RamDiff as s t' := by
  intro x hx
  rw [hr] at hx
  exact h x hx

/-- The fields of `Kept` and `CpuKept`, and what an access does to the outcome: one that ends well keeps it, one that ends
the run records an invalid access (R300). -/
inductive Access.Tame {α : Type} (s : State) : Access α → Prop
  | ok (a : α) {t : State} (kept : Kept s t) (cpu : CpuKept s t) (outcome : t.outcome = s.outcome) : Tame s (.ok a t)
  | stop {t : State} (a : Word) (d : Dir) (kept : Kept s t) (cpu : CpuKept s t)
      (outcome : t.outcome = .faulted (.invalidAccess a d)) : Tame s (.stop t)

theorem Access.Tame.kept {α : Type} {s : State} {x : Access α} (h : x.Tame s) : Kept s x.after := by
  cases h <;> assumption

theorem Access.Tame.cpu {α : Type} {s : State} {x : Access α} (h : x.Tame s) : CpuKept s x.after := by
  cases h <;> assumption

theorem Access.Tame.bind {α β : Type} {s : State} {x : Access α} {k : α → State → Access β} (h : x.Tame s)
    (hk : ∀ a t, x = .ok a t → (k a t).Tame t) : (x.bind k).Tame s := by
  cases h with
  | ok a kept cpu outcome =>
    have hy := hk a _ rfl
    simp only [Access.bind_ok]
    generalize k a _ = y at hy ⊢
    cases hy with
    | ok b kept' cpu' outcome' => exact .ok b (kept.trans kept') (cpu.trans cpu') (outcome'.trans outcome)
    | stop a' d kept' cpu' outcome' => exact .stop a' d (kept.trans kept') (cpu.trans cpu') outcome'
  | stop a d kept cpu outcome => exact .stop a d kept cpu outcome

theorem afterRead_kept (s : State) (a : Word) : Kept s (afterRead s a) ∧ CpuKept s (afterRead s a) := by
  unfold afterRead; split
  · exact ⟨⟨rfl, rfl, rfl, rfl, rfl, rfl, rfl, rfl, rfl, rfl, id, id⟩, ⟨rfl, rfl, rfl, rfl, rfl, rfl, rfl, rfl⟩⟩
  · exact ⟨Kept.refl s, CpuKept.refl s⟩

theorem busReadWith_tame (g : Bool) (a : Word) (s : State) : (busReadWith g a s).Tame s := by
  unfold busReadWith
  split
  · exact .ok _ (afterRead_kept s a).1 (afterRead_kept s a).2 (by simp)
  · exact .stop a .read ⟨rfl, rfl, rfl, rfl, rfl, rfl, rfl, rfl, rfl, rfl, id, id⟩
      ⟨rfl, rfl, rfl, rfl, rfl, rfl, rfl, rfl⟩ rfl

theorem busRead_tame (a : Word) (s : State) : (busRead a s).Tame s := busReadWith_tame true a s

/-- A read changes no RAM, no cartridge, no device register and neither interrupt register (R52). -/
theorem busReadWith_after (g : Bool) (a : Word) (s : State) :
    (busReadWith g a s).after.ram = s.ram ∧ (busReadWith g a s).after.cart = s.cart ∧
      (busReadWith g a s).after.ie = s.ie ∧ (busReadWith g a s).after.ifReg = s.ifReg ∧
      (busReadWith g a s).after.timer = s.timer ∧ (busReadWith g a s).after.ppu = s.ppu ∧
      (busReadWith g a s).after.bootDisabled = s.bootDisabled := by
  unfold busReadWith
  split <;> simp

theorem setRam_kept {s : State} {m : Memory} (h : RamGood s.ram → RamGood m) :
    Kept s (s.setRam m) ∧ CpuKept s (s.setRam m) :=
  ⟨⟨rfl, rfl, rfl, rfl, rfl, rfl, rfl, rfl, rfl, rfl, id, h⟩, ⟨rfl, rfl, rfl, rfl, rfl, rfl, rfl, rfl⟩⟩

theorem ramGood_write {m : Memory} {k : Nat} (v : Byte) (hk : isRamKey k = true) (h : RamGood m) :
    RamGood (m.write k v) :=
  ⟨Memory.wf_write m k v h.1, Memory.all_write isRamKey m k v h.2 hk⟩

theorem dmaCopy_tame (page : Byte) (n i : Nat) (hi : n + i ≤ 160) (s : State) : (dmaCopy page n i s).Tame s := by
  induction n generalizing i s with
  | zero => exact .ok () (Kept.refl s) (CpuKept.refl s) rfl
  | succ n ih =>
    unfold dmaCopy
    refine (busReadWith_tame _ _ _).bind fun v t _ => ?_
    have hs := setRam_kept (s := t) (m := t.ram.write (0xFE00 + i) v)
      (fun h => ramGood_write v (ramKey_lt_dma (by omega)) h)
    have ht := ih (i + 1) (by omega) (t.setRam (t.ram.write (0xFE00 + i) v))
    generalize dmaCopy page n (i + 1) _ = y at ht
    cases ht with
    | ok a k c o => exact .ok a (hs.1.trans k) (hs.2.trans c) o
    | stop a d k c o => exact .stop a d (hs.1.trans k) (hs.2.trans c) o

/-- A change of the renderer's plain registers. -/
theorem setPpu_tame {s : State} {p : Ppu} (h1 : p.mode = s.ppu.mode) (h2 : p.modeClock = s.ppu.modeClock)
    (h3 : p.line = s.ppu.line) (h4 : p.framebuffer = s.ppu.framebuffer) : Kept s (s.setPpu p) ∧ CpuKept s (s.setPpu p) :=
  ⟨⟨rfl, rfl, rfl, rfl, h1, h2, h3, h4, rfl, rfl, id, id⟩, ⟨rfl, rfl, rfl, rfl, rfl, rfl, rfl, rfl⟩⟩

theorem oamDma_tame (page : Byte) (s : State) : (oamDma page s).Tame s := by
  have hs := setPpu_tame (s := s) (p := { s.ppu with dma := page }) rfl rfl rfl rfl
  have ht := dmaCopy_tame page 160 0 (by omega) (s.setPpu { s.ppu with dma := page })
  unfold oamDma
  generalize dmaCopy page 160 0 _ = y at ht
  cases ht with
  | ok a k c o => exact .ok a (hs.1.trans k) (hs.2.trans c) o
  | stop a d k c o => exact .stop a d (hs.1.trans k) (hs.2.trans c) o

theorem unmappedWrite_tame (a : Word) (s : State) : (unmappedWrite a s).Tame s := by
  unfold unmappedWrite
  split
  · exact .ok () (Kept.refl s) (CpuKept.refl s) rfl
  · exact .stop a .write ⟨rfl, rfl, rfl, rfl, rfl, rfl, rfl, rfl, rfl, rfl, id, id⟩
      ⟨rfl, rfl, rfl, rfl, rfl, rfl, rfl, rfl⟩ rfl

theorem ioWrite_tame (a : Word) (v : Byte) (s : State) : (ioWrite a v s).Tame s := by
  unfold ioWrite
  split <;> first
    | exact oamDma_tame v s
    | exact unmappedWrite_tame a s
    | exact .ok () ⟨rfl, rfl, rfl, rfl, rfl, rfl, rfl, rfl, rfl, rfl, id, id⟩
        ⟨rfl, rfl, rfl, rfl, rfl, rfl, rfl, rfl⟩ rfl
    | skip
  split
  · exact .ok () (Kept.refl s) (CpuKept.refl s) rfl
  · exact .ok () ⟨rfl, rfl, rfl, rfl, rfl, rfl, rfl, rfl, rfl, rfl, fun _ => rfl, id⟩
      ⟨rfl, rfl, rfl, rfl, rfl, rfl, rfl, rfl⟩ rfl

theorem cartWrite_kept {c d : Cart} {a : Nat} {v : Byte} (h : cartWrite c a v = some d) :
    d.variant = c.variant ∧ d.rom = c.rom := by
  unfold cartWrite at h
  split at h
  · cases h; exact ⟨rfl, rfl⟩
  · cases hw : Config.cartWrite c a v <;> rw [hw] at h <;> simp at h
    rw [← h]; exact ⟨rfl, rfl⟩

theorem cartStore_tame (a : Word) (v : Byte) (s : State) : (cartStore a v s).Tame s := by
  unfold cartStore
  split
  · rename_i c hc
    have h := cartWrite_kept hc
    exact .ok () ⟨rfl, rfl, rfl, rfl, rfl, rfl, rfl, rfl, h.1, h.2, id, id⟩
      ⟨rfl, rfl, rfl, rfl, rfl, rfl, rfl, rfl⟩ rfl
  · exact .stop a .write ⟨rfl, rfl, rfl, rfl, rfl, rfl, rfl, rfl, rfl, rfl, id, id⟩
      ⟨rfl, rfl, rfl, rfl, rfl, rfl, rfl, rfl⟩ rfl

theorem ramStore_tame {a : Word} (v : Byte) (s : State)
    (h : region a = .vram ∨ region a = .wram ∨ region a = .echo ∨ region a = .oam ∨ region a = .hram) :
    (Access.ok () (ramStore a v s)).Tame s := by
  have hs := setRam_kept (s := s) (m := s.ram.write (ramKey a) v) (fun hg => ramGood_write v (isRamKey_ramKey h) hg)
  exact .ok () hs.1 hs.2 rfl

theorem busWrite_tame (a : Word) (v : Byte) (s : State) : (busWrite a v s).Tame s := by
  unfold busWrite
  cases hr : region a <;> simp only
  · exact cartStore_tame a v s
  · split
    · exact .ok () (Kept.refl s) (CpuKept.refl s) rfl
    · exact ramStore_tame v s (by simp [hr])
  · exact cartStore_tame a v s
  · exact ramStore_tame v s (by simp [hr])
  · exact ramStore_tame v s (by simp [hr])
  · split
    · exact .ok () (Kept.refl s) (CpuKept.refl s) rfl
    · exact ramStore_tame v s (by simp [hr])
  · exact unmappedWrite_tame a s
  · exact ioWrite_tame a v s
  · exact ramStore_tame v s (by simp [hr])
  · exact .ok () ⟨rfl, rfl, rfl, rfl, rfl, rfl, rfl, rfl, rfl, rfl, id, id⟩
      ⟨rfl, rfl, rfl, rfl, rfl, rfl, rfl, rfl⟩ rfl

theorem busRead16_tame (a : Word) (s : State) : (busRead16 a s).Tame s :=
  (busRead_tame a s).bind fun _ _ _ => (busRead_tame _ _).bind fun _ t _ =>
    .ok _ (Kept.refl t) (CpuKept.refl t) rfl

theorem busWrite16_tame (a : Word) (v : Word) (s : State) : (busWrite16 a v s).Tame s :=
  (busWrite_tame _ _ _).bind fun _ _ _ => busWrite_tame _ _ _

/-! ## Which RAM bytes a write changes -/

theorem dmaCopy_ramDiff (page : Byte) (n i : Nat) (hi : n + i ≤ 160) (s : State) (k : Nat)
    (h : (dmaCopy page n i s).after.ram.read k ≠ s.ram.read k) : 0xFE00 ≤ k ∧ k < 0xFEA0 := by
  induction n generalizing i s with
  | zero => exact absurd rfl h
  | succ n ih =>
    unfold dmaCopy at h
    cases hr : busReadWith false (word page (BitVec.ofNat 8 i)) s with
    | stop t =>
      rw [hr] at h
      have hm := (busReadWith_after false (word page (BitVec.ofNat 8 i)) s).1
      rw [hr] at hm
      exact absurd (by simp at hm; simp [hm]) h
    | ok v t =>
      rw [hr] at h
      have hm := (busReadWith_after false (word page (BitVec.ofNat 8 i)) s).1
      rw [hr, Access.after_ok] at hm
      rw [Access.bind_ok] at h
      by_cases hk : k = 0xFE00 + i
      · omega
      · refine ih (i + 1) (by omega) (t.setRam (t.ram.write (0xFE00 + i) v)) (fun he => h (he.trans ?_))
        rw [State.setRam_ram, Memory.read_write_of_ne _ v hk, hm]

theorem busWrite_ramDiff (a : Word) (v : Byte) (s : State) : RamDiff [a] s (busWrite a v s).after := by
  have store : ∀ u : State, u.ram = s.ram.write (ramKey a) v → plainRam s a = true → RamDiff [a] s u := by
    intro u hu hp k hk
    by_cases hka : k = ramKey a
    · exact .inl ⟨a, List.mem_singleton.2 rfl, hp, hka.symm⟩
    · rw [hu, Memory.read_write_of_ne _ v hka] at hk; exact absurd rfl hk
  unfold busWrite
  cases hr : region a <;> simp only
  · unfold cartStore; split <;> exact .of_ram_eq rfl
  · split
    · exact .of_ram_eq rfl
    · rename_i hl; exact store _ rfl (by simp [plainRam, hr, hl])
  · unfold cartStore; split <;> exact .of_ram_eq rfl
  · exact store _ rfl (by simp [plainRam, hr])
  · exact store _ rfl (by simp [plainRam, hr])
  · split
    · exact .of_ram_eq rfl
    · rename_i hl; exact store _ rfl (by simp [plainRam, hr, hl])
  · unfold unmappedWrite; split <;> exact .of_ram_eq rfl
  · unfold ioWrite
    split <;> first
      | exact .of_ram_eq rfl
      | (unfold unmappedWrite; split <;> exact .of_ram_eq rfl)
      | skip
    · rename_i h46
      intro k hk
      exact .inr ⟨List.mem_singleton.2 (BitVec.eq_of_toNat_eq h46.symm), dmaCopy_ramDiff v 160 0 (by omega) _ k hk⟩
    · split <;> exact .of_ram_eq rfl
  · exact store _ rfl (by simp [plainRam, hr])
  · exact .of_ram_eq rfl

theorem busWrite16_ramDiff (a : Word) (v : Word) (s : State) : RamDiff [a, a + 1] s (busWrite16 a v s).after := by
  unfold busWrite16
  have h1 := busWrite_ramDiff a (lo v) s
  have k1 := busWrite_tame a (lo v) s
  cases hw : busWrite a (lo v) s with
  | stop t =>
    rw [hw] at h1
    intro k hk
    rcases h1 k hk with ⟨b, hb, h⟩ | ⟨hb, h⟩
    · exact .inl ⟨b, List.mem_cons.2 (.inl (List.mem_singleton.1 hb)), h⟩
    · exact .inr ⟨List.mem_cons.2 (.inl (List.mem_singleton.1 hb)), h⟩
  | ok u t =>
    rw [hw] at h1 k1
    exact RamDiff.trans k1.kept h1 (busWrite_ramDiff (a + 1) (hi v) t)

end Sys2Proof.Machine
end

