-- ==== Sys2Proof/Laws/Shape.lean ====
section
/-! SUPPORT. The instructions by shape: each of the 512 constructors runs as one of some forty shapes over its operands, so
that a fact about every instruction is proved by cases over the shapes. -/

namespace Sys2Proof.Machine

/-- A data address of an 8-bit load or store. -/
inductive Addr
  | hl
  | bc
  | de
  | high (n : Byte)
  | highC
  | abs (nn : Word)

def Addr.at (a : Addr) (s : State) : Word :=
  match a with
  | .hl => s.hl
  | .bc => s.bc
  | .de => s.de
  | .high n => highPage n
  | .highC => highPage s.regs.c
  | .abs nn => nn

/-- What an 8-bit store stores. -/
inductive Src
  | reg (r : Reg8)
  | imm (n : Byte)

def Src.val (v : Src) (s : State) : Byte :=
  match v with
  | .reg r => s.get8 r
  | .imm n => n

/-- The shapes, in the order of the families. -/
inductive Shape
  | ld (dst r : Reg8)
  | ldImm (dst : Reg8) (n : Byte)
  | load (dst : Reg8) (a : Addr) (cost : Nat)
  | store (a : Addr) (v : Src) (cost : Nat)
  | storeMove (delta : Word)
  | loadMove (delta : Word)
  | ld16 (rr : Reg16) (nn : Word)
  | storeSp (nn : Word)
  | ldSpHl
  | push (rr : RegStk)
  | pop (rr : RegStk)
  | alu (op : AluOp) (x : R8)
  | aluImm (op : AluOp) (n : Byte)
  | inc (x : R8)
  | dec (x : R8)
  | daa
  | cpl
  | scf
  | ccf
  | addHl (rr : Reg16)
  | inc16 (rr : Reg16)
  | dec16 (rr : Reg16)
  | addSp (e : Byte)
  | ldHlSp (e : Byte)
  | rotA (op : ShiftOp)
  | shift (op : ShiftOp) (x : R8)
  | bit (n : Oct) (x : R8)
  | res (n : Oct) (x : R8)
  | set (n : Oct) (x : R8)
  | jr (e : Byte)
  | jrIf (cc : Cond) (e : Byte)
  | jp (nn : Word)
  | jpIf (cc : Cond) (nn : Word)
  | jpHl
  | call (nn : Word)
  | callIf (cc : Cond) (nn : Word)
  | rst (t : Word)
  | ret
  | retIf (cc : Cond)
  | reti
  | nop
  | stop
  | halt
  | di
  | ei
  | undefined (op : Byte)

/-- How a shape runs. -/
def Shape.run (x : Shape) (s : State) : Result :=
  match x with
  | .ld dst r => done 1 (s.set8 dst (s.get8 r))
  | .ldImm dst n => done 2 (s.set8 dst n)
  | .load dst a cost => loadReg dst (a.at s) cost s
  | .store a v cost => storeByte (a.at s) (v.val s) cost s
  | .storeMove delta => storeMoveHl delta 2 s
  | .loadMove delta => loadMoveHl delta 2 s
  | .ld16 rr nn => done 3 (s.set16 rr nn)
  | .storeSp nn => (busWrite16 nn s.sp s).finish 5
  | .ldSpHl => done 2 (s.setSp s.hl)
  | .push rr => pushPair rr 4 s
  | .pop rr => popPair rr 3 s
  | .alu op x => aluR8 op x (prefixedCost x 1 2) s
  | .aluImm op n => done 2 (s.applyAlu op n)
  | .inc x => stepR8 inc8 x (prefixedCost x 1 3) s
  | .dec x => stepR8 dec8 x (prefixedCost x 1 3) s
  | .daa => execDaa s
  | .cpl => execCpl s
  | .scf => execScf s
  | .ccf => execCcf s
  | .addHl rr => Machine.addHl rr s
  | .inc16 rr => done 2 (s.set16 rr (s.get16 rr + 1))
  | .dec16 rr => done 2 (s.set16 rr (s.get16 rr - 1))
  | .addSp e => execAddSpE8 e s
  | .ldHlSp e => execLdHlSpE8 e s
  | .rotA op => rotateA op s
  | .shift op x => shiftR8 op x (prefixedCost x 2 4) s
  | .bit n x => bitR8 n x (prefixedCost x 2 3) s
  | .res n x => resR8 n x (prefixedCost x 2 4) s
  | .set n x => setR8 n x (prefixedCost x 2 4) s
  | .jr e => done 3 (s.setPc (relTarget e s))
  | .jrIf cc e => jumpIf (condHolds cc s) (relTarget e s) 2 3 s
  | .jp nn => done 4 (s.setPc nn)
  | .jpIf cc nn => jumpIf (condHolds cc s) nn 3 4 s
  | .jpHl => done 1 (s.setPc s.hl)
  | .call nn => (callTo nn s).finish 6
  | .callIf cc nn => Machine.callIf (condHolds cc s) nn 3 6 s
  | .rst t => (callTo t s).finish 4
  | .ret => (popPc s).finish 4
  | .retIf cc => returnIf (condHolds cc s) 2 5 s
  | .reti => (returnFromInterrupt s).finish 4
  | .nop => done 1 s
  | .stop => execStop 0 s
  | .halt => done 1 (s.setHalted true)
  | .di => done 1 ((s.setIme false).setEi false)
  | .ei => done 1 (s.setEi true)
  | .undefined op => undefinedOp op s

/-- The shape a prefixed opcode names (R99). -/
def Shape.ofPrefixed (op2 : Byte) : Shape :=
  match fieldX op2 with
  | 0 => .shift (ShiftOp.ofField (fieldY op2)) (R8.ofField (fieldZ op2))
  | 1 => .bit (fieldY op2) (R8.ofField (fieldZ op2))
  | 2 => .res (fieldY op2) (R8.ofField (fieldZ op2))
  | _ => .set (fieldY op2) (R8.ofField (fieldZ op2))

/-- The shape of an instruction. -/
def shape : Instr → Shape
  | .nop => .nop
  | .ldBcD16 nn => .ld16 .bc nn
  | .ldIndBcA => .store .bc (.reg .a) 2
  | .incBc => .inc16 .bc
  | .incB => .inc (.reg .b)
  | .decB => .dec (.reg .b)
  | .ldBD8 n => .ldImm .b n
  | .rlca => .rotA .rlc
  | .ldIndA16Sp nn => .storeSp nn
  | .addHlBc => .addHl .bc
  | .ldAIndBc => .load .a .bc 2
  | .decBc => .dec16 .bc
  | .incC => .inc (.reg .c)
  | .decC => .dec (.reg .c)
  | .ldCD8 n => .ldImm .c n
  | .rrca => .rotA .rrc
  | .stop _ => .stop
  | .ldDeD16 nn => .ld16 .de nn
  | .ldIndDeA => .store .de (.reg .a) 2
  | .incDe => .inc16 .de
  | .incD => .inc (.reg .d)
  | .decD => .dec (.reg .d)
  | .ldDD8 n => .ldImm .d n
  | .rla => .rotA .rl
  | .jrE8 e => .jr e
  | .addHlDe => .addHl .de
  | .ldAIndDe => .load .a .de 2
  | .decDe => .dec16 .de
  | .incE => .inc (.reg .e)
  | .decE => .dec (.reg .e)
  | .ldED8 n => .ldImm .e n
  | .rra => .rotA .rr
  | .jrNzE8 e => .jrIf .nz e
  | .ldHlD16 nn => .ld16 .hl nn
  | .ldIndHlIncA => .storeMove 1
  | .incHl => .inc16 .hl
  | .incH => .inc (.reg .h)
  | .decH => .dec (.reg .h)
  | .ldHD8 n => .ldImm .h n
  | .daa => .daa
  | .jrZE8 e => .jrIf .z e
  | .addHlHl => .addHl .hl
  | .ldAIndHlInc => .loadMove 1
  | .decHl => .dec16 .hl
  | .incL => .inc (.reg .l)
  | .decL => .dec (.reg .l)
  | .ldLD8 n => .ldImm .l n
  | .cpl => .cpl
  | .jrNcE8 e => .jrIf .nc e
  | .ldSpD16 nn => .ld16 .sp nn
  | .ldIndHlDecA => .storeMove (-1)
  | .incSp => .inc16 .sp
  | .incIndHl => .inc .indHl
  | .decIndHl => .dec .indHl
  | .ldIndHlD8 n => .store .hl (.imm n) 3
  | .scf => .scf
  | .jrCE8 e => .jrIf .c e
  | .addHlSp => .addHl .sp
  | .ldAIndHlDec => .loadMove (-1)
  | .decSp => .dec16 .sp
  | .incA => .inc (.reg .a)
  | .decA => .dec (.reg .a)
  | .ldAD8 n => .ldImm .a n
  | .ccf => .ccf
  | .ldBB => .ld .b .b
  | .ldBC => .ld .b .c
  | .ldBD => .ld .b .d
  | .ldBE => .ld .b .e
  | .ldBH => .ld .b .h
  | .ldBL => .ld .b .l
  | .ldBIndHl => .load .b .hl 2
  | .ldBA => .ld .b .a
  | .ldCB => .ld .c .b
  | .ldCC => .ld .c .c
  | .ldCD => .ld .c .d
  | .ldCE => .ld .c .e
  | .ldCH => .ld .c .h
  | .ldCL => .ld .c .l
  | .ldCIndHl => .load .c .hl 2
  | .ldCA => .ld .c .a
  | .ldDB => .ld .d .b
  | .ldDC => .ld .d .c
  | .ldDD => .ld .d .d
  | .ldDE => .ld .d .e
  | .ldDH => .ld .d .h
  | .ldDL => .ld .d .l
  | .ldDIndHl => .load .d .hl 2
  | .ldDA => .ld .d .a
  | .ldEB => .ld .e .b
  | .ldEC => .ld .e .c
  | .ldED => .ld .e .d
  | .ldEE => .ld .e .e
  | .ldEH => .ld .e .h
  | .ldEL => .ld .e .l
  | .ldEIndHl => .load .e .hl 2
  | .ldEA => .ld .e .a
  | .ldHB => .ld .h .b
  | .ldHC => .ld .h .c
  | .ldHD => .ld .h .d
  | .ldHE => .ld .h .e
  | .ldHH => .ld .h .h
  | .ldHL => .ld .h .l
  | .ldHIndHl => .load .h .hl 2
  | .ldHA => .ld .h .a
  | .ldLB => .ld .l .b
  | .ldLC => .ld .l .c
  | .ldLD => .ld .l .d
  | .ldLE => .ld .l .e
  | .ldLH => .ld .l .h
  | .ldLL => .ld .l .l
  | .ldLIndHl => .load .l .hl 2
  | .ldLA => .ld .l .a
  | .ldIndHlB => .store .hl (.reg .b) 2
  | .ldIndHlC => .store .hl (.reg .c) 2
  | .ldIndHlD => .store .hl (.reg .d) 2
  | .ldIndHlE => .store .hl (.reg .e) 2
  | .ldIndHlH => .store .hl (.reg .h) 2
  | .ldIndHlL => .store .hl (.reg .l) 2
  | .halt => .halt
  | .ldIndHlA => .store .hl (.reg .a) 2
  | .ldAB => .ld .a .b
  | .ldAC => .ld .a .c
  | .ldAD => .ld .a .d
  | .ldAE => .ld .a .e
  | .ldAH => .ld .a .h
  | .ldAL => .ld .a .l
  | .ldAIndHl => .load .a .hl 2
  | .ldAA => .ld .a .a
  | .addAB => .alu .add (.reg .b)
  | .addAC => .alu .add (.reg .c)
  | .addAD => .alu .add (.reg .d)
  | .addAE => .alu .add (.reg .e)
  | .addAH => .alu .add (.reg .h)
  | .addAL => .alu .add (.reg .l)
  | .addAIndHl => .alu .add .indHl
  | .addAA => .alu .add (.reg .a)
  | .adcAB => .alu .adc (.reg .b)
  | .adcAC => .alu .adc (.reg .c)
  | .adcAD => .alu .adc (.reg .d)
  | .adcAE => .alu .adc (.reg .e)
  | .adcAH => .alu .adc (.reg .h)
  | .adcAL => .alu .adc (.reg .l)
  | .adcAIndHl => .alu .adc .indHl
  | .adcAA => .alu .adc (.reg .a)
  | .subB => .alu .sub (.reg .b)
  | .subC => .alu .sub (.reg .c)
  | .subD => .alu .sub (.reg .d)
  | .subE => .alu .sub (.reg .e)
  | .subH => .alu .sub (.reg .h)
  | .subL => .alu .sub (.reg .l)
  | .subIndHl => .alu .sub .indHl
  | .subA => .alu .sub (.reg .a)
  | .sbcAB => .alu .sbc (.reg .b)
  | .sbcAC => .alu .sbc (.reg .c)
  | .sbcAD => .alu .sbc (.reg .d)
  | .sbcAE => .alu .sbc (.reg .e)
  | .sbcAH => .alu .sbc (.reg .h)
  | .sbcAL => .alu .sbc (.reg .l)
  | .sbcAIndHl => .alu .sbc .indHl
  | .sbcAA => .alu .sbc (.reg .a)
  | .andB => .alu .and (.reg .b)
  | .andC => .alu .and (.reg .c)
  | .andD => .alu .and (.reg .d)
  | .andE => .alu .and (.reg .e)
  | .andH => .alu .and (.reg .h)
  | .andL => .alu .and (.reg .l)
  | .andIndHl => .alu .and .indHl
  | .andA => .alu .and (.reg .a)
  | .xorB => .alu .xor (.reg .b)
  | .xorC => .alu .xor (.reg .c)
  | .xorD => .alu .xor (.reg .d)
  | .xorE => .alu .xor (.reg .e)
  | .xorH => .alu .xor (.reg .h)
  | .xorL => .alu .xor (.reg .l)
  | .xorIndHl => .alu .xor .indHl
  | .xorA => .alu .xor (.reg .a)
  | .orB => .alu .or (.reg .b)
  | .orC => .alu .or (.reg .c)
  | .orD => .alu .or (.reg .d)
  | .orE => .alu .or (.reg .e)
  | .orH => .alu .or (.reg .h)
  | .orL => .alu .or (.reg .l)
  | .orIndHl => .alu .or .indHl
  | .orA => .alu .or (.reg .a)
  | .cpB => .alu .cp (.reg .b)
  | .cpC => .alu .cp (.reg .c)
  | .cpD => .alu .cp (.reg .d)
  | .cpE => .alu .cp (.reg .e)
  | .cpH => .alu .cp (.reg .h)
  | .cpL => .alu .cp (.reg .l)
  | .cpIndHl => .alu .cp .indHl
  | .cpA => .alu .cp (.reg .a)
  | .retNz => .retIf .nz
  | .popBc => .pop .bc
  | .jpNzA16 nn => .jpIf .nz nn
  | .jpA16 nn => .jp nn
  | .callNzA16 nn => .callIf .nz nn
  | .pushBc => .push .bc
  | .addAD8 n => .aluImm .add n
  | .rst00 => .rst 0x00
  | .retZ => .retIf .z
  | .ret => .ret
  | .jpZA16 nn => .jpIf .z nn
  | .prefixCb op2 => Shape.ofPrefixed op2
  | .callZA16 nn => .callIf .z nn
  | .callA16 nn => .call nn
  | .adcAD8 n => .aluImm .adc n
  | .rst08 => .rst 0x08
  | .retNc => .retIf .nc
  | .popDe => .pop .de
  | .jpNcA16 nn => .jpIf .nc nn
  | .undefinedD3 => .undefined 0xD3
  | .callNcA16 nn => .callIf .nc nn
  | .pushDe => .push .de
  | .subD8 n => .aluImm .sub n
  | .rst10 => .rst 0x10
  | .retC => .retIf .c
  | .reti => .reti
  | .jpCA16 nn => .jpIf .c nn
  | .undefinedDB => .undefined 0xDB
  | .callCA16 nn => .callIf .c nn
  | .undefinedDD => .undefined 0xDD
  | .sbcAD8 n => .aluImm .sbc n
  | .rst18 => .rst 0x18
  | .ldhIndA8A n => .store (.high n) (.reg .a) 3
  | .popHl => .pop .hl
  | .ldIndCA => .store .highC (.reg .a) 2
  | .undefinedE3 => .undefined 0xE3
  | .undefinedE4 => .undefined 0xE4
  | .pushHl => .push .hl
  | .andD8 n => .aluImm .and n
  | .rst20 => .rst 0x20
  | .addSpE8 e => .addSp e
  | .jpHl => .jpHl
  | .ldIndA16A nn => .store (.abs nn) (.reg .a) 4
  | .undefinedEB => .undefined 0xEB
  | .undefinedEC => .undefined 0xEC
  | .undefinedED => .undefined 0xED
  | .xorD8 n => .aluImm .xor n
  | .rst28 => .rst 0x28
  | .ldhAIndA8 n => .load .a (.high n) 3
  | .popAf => .pop .af
  | .ldAIndC => .load .a .highC 2
  | .di => .di
  | .undefinedF4 => .undefined 0xF4
  | .pushAf => .push .af
  | .orD8 n => .aluImm .or n
  | .rst30 => .rst 0x30
  | .ldHlSpE8 e => .ldHlSp e
  | .ldSpHl => .ldSpHl
  | .ldAIndA16 nn => .load .a (.abs nn) 4
  | .ei => .ei
  | .undefinedFC => .undefined 0xFC
  | .undefinedFD => .undefined 0xFD
  | .cpD8 n => .aluImm .cp n
  | .rst38 => .rst 0x38
  | .rlcB => .shift .rlc (.reg .b)
  | .rlcC => .shift .rlc (.reg .c)
  | .rlcD => .shift .rlc (.reg .d)
  | .rlcE => .shift .rlc (.reg .e)
  | .rlcH => .shift .rlc (.reg .h)
  | .rlcL => .shift .rlc (.reg .l)
  | .rlcIndHl => .shift .rlc .indHl
  | .rlcA => .shift .rlc (.reg .a)
  | .rrcB => .shift .rrc (.reg .b)
  | .rrcC => .shift .rrc (.reg .c)
  | .rrcD => .shift .rrc (.reg .d)
  | .rrcE => .shift .rrc (.reg .e)
  | .rrcH => .shift .rrc (.reg .h)
  | .rrcL => .shift .rrc (.reg .l)
  | .rrcIndHl => .shift .rrc .indHl
  | .rrcA => .shift .rrc (.reg .a)
  | .rlB => .shift .rl (.reg .b)
  | .rlC => .shift .rl (.reg .c)
  | .rlD => .shift .rl (.reg .d)
  | .rlE => .shift .rl (.reg .e)
  | .rlH => .shift .rl (.reg .h)
  | .rlL => .shift .rl (.reg .l)
  | .rlIndHl => .shift .rl .indHl
  | .rlA => .shift .rl (.reg .a)
  | .rrB => .shift .rr (.reg .b)
  | .rrC => .shift .rr (.reg .c)
  | .rrD => .shift .rr (.reg .d)
  | .rrE => .shift .rr (.reg .e)
  | .rrH => .shift .rr (.reg .h)
  | .rrL => .shift .rr (.reg .l)
  | .rrIndHl => .shift .rr .indHl
  | .rrA => .shift .rr (.reg .a)
  | .slaB => .shift .sla (.reg .b)
  | .slaC => .shift .sla (.reg .c)
  | .slaD => .shift .sla (.reg .d)
  | .slaE => .shift .sla (.reg .e)
  | .slaH => .shift .sla (.reg .h)
  | .slaL => .shift .sla (.reg .l)
  | .slaIndHl => .shift .sla .indHl
  | .slaA => .shift .sla (.reg .a)
  | .sraB => .shift .sra (.reg .b)
  | .sraC => .shift .sra (.reg .c)
  | .sraD => .shift .sra (.reg .d)
  | .sraE => .shift .sra (.reg .e)
  | .sraH => .shift .sra (.reg .h)
  | .sraL => .shift .sra (.reg .l)
  | .sraIndHl => .shift .sra .indHl
  | .sraA => .shift .sra (.reg .a)
  | .swapB => .shift .swap (.reg .b)
  | .swapC => .shift .swap (.reg .c)
  | .swapD => .shift .swap (.reg .d)
  | .swapE => .shift .swap (.reg .e)
  | .swapH => .shift .swap (.reg .h)
  | .swapL => .shift .swap (.reg .l)
  | .swapIndHl => .shift .swap .indHl
  | .swapA => .shift .swap (.reg .a)
  | .srlB => .shift .srl (.reg .b)
  | .srlC => .shift .srl (.reg .c)
  | .srlD => .shift .srl (.reg .d)
  | .srlE => .shift .srl (.reg .e)
  | .srlH => .shift .srl (.reg .h)
  | .srlL => .shift .srl (.reg .l)
  | .srlIndHl => .shift .srl .indHl
  | .srlA => .shift .srl (.reg .a)
  | .bit0B => .bit .i0 (.reg .b)
  | .bit0C => .bit .i0 (.reg .c)
  | .bit0D => .bit .i0 (.reg .d)
  | .bit0E => .bit .i0 (.reg .e)
  | .bit0H => .bit .i0 (.reg .h)
  | .bit0L => .bit .i0 (.reg .l)
  | .bit0IndHl => .bit .i0 .indHl
  | .bit0A => .bit .i0 (.reg .a)
  | .bit1B => .bit .i1 (.reg .b)
  | .bit1C => .bit .i1 (.reg .c)
  | .bit1D => .bit .i1 (.reg .d)
  | .bit1E => .bit .i1 (.reg .e)
  | .bit1H => .bit .i1 (.reg .h)
  | .bit1L => .bit .i1 (.reg .l)
  | .bit1IndHl => .bit .i1 .indHl
  | .bit1A => .bit .i1 (.reg .a)
  | .bit2B => .bit .i2 (.reg .b)
  | .bit2C => .bit .i2 (.reg .c)
  | .bit2D => .bit .i2 (.reg .d)
  | .bit2E => .bit .i2 (.reg .e)
  | .bit2H => .bit .i2 (.reg .h)
  | .bit2L => .bit .i2 (.reg .l)
  | .bit2IndHl => .bit .i2 .indHl
  | .bit2A => .bit .i2 (.reg .a)
  | .bit3B => .bit .i3 (.reg .b)
  | .bit3C => .bit .i3 (.reg .c)
  | .bit3D => .bit .i3 (.reg .d)
  | .bit3E => .bit .i3 (.reg .e)
  | .bit3H => .bit .i3 (.reg .h)
  | .bit3L => .bit .i3 (.reg .l)
  | .bit3IndHl => .bit .i3 .indHl
  | .bit3A => .bit .i3 (.reg .a)
  | .bit4B => .bit .i4 (.reg .b)
  | .bit4C => .bit .i4 (.reg .c)
  | .bit4D => .bit .i4 (.reg .d)
  | .bit4E => .bit .i4 (.reg .e)
  | .bit4H => .bit .i4 (.reg .h)
  | .bit4L => .bit .i4 (.reg .l)
  | .bit4IndHl => .bit .i4 .indHl
  | .bit4A => .bit .i4 (.reg .a)
  | .bit5B => .bit .i5 (.reg .b)
  | .bit5C => .bit .i5 (.reg .c)
  | .bit5D => .bit .i5 (.reg .d)
  | .bit5E => .bit .i5 (.reg .e)
  | .bit5H => .bit .i5 (.reg .h)
  | .bit5L => .bit .i5 (.reg .l)
  | .bit5IndHl => .bit .i5 .indHl
  | .bit5A => .bit .i5 (.reg .a)
  | .bit6B => .bit .i6 (.reg .b)
  | .bit6C => .bit .i6 (.reg .c)
  | .bit6D => .bit .i6 (.reg .d)
  | .bit6E => .bit .i6 (.reg .e)
  | .bit6H => .bit .i6 (.reg .h)
  | .bit6L => .bit .i6 (.reg .l)
  | .bit6IndHl => .bit .i6 .indHl
  | .bit6A => .bit .i6 (.reg .a)
  | .bit7B => .bit .i7 (.reg .b)
  | .bit7C => .bit .i7 (.reg .c)
  | .bit7D => .bit .i7 (.reg .d)
  | .bit7E => .bit .i7 (.reg .e)
  | .bit7H => .bit .i7 (.reg .h)
  | .bit7L => .bit .i7 (.reg .l)
  | .bit7IndHl => .bit .i7 .indHl
  | .bit7A => .bit .i7 (.reg .a)
  | .res0B => .res .i0 (.reg .b)
  | .res0C => .res .i0 (.reg .c)
  | .res0D => .res .i0 (.reg .d)
  | .res0E => .res .i0 (.reg .e)
  | .res0H => .res .i0 (.reg .h)
  | .res0L => .res .i0 (.reg .l)
  | .res0IndHl => .res .i0 .indHl
  | .res0A => .res .i0 (.reg .a)
  | .res1B => .res .i1 (.reg .b)
  | .res1C => .res .i1 (.reg .c)
  | .res1D => .res .i1 (.reg .d)
  | .res1E => .res .i1 (.reg .e)
  | .res1H => .res .i1 (.reg .h)
  | .res1L => .res .i1 (.reg .l)
  | .res1IndHl => .res .i1 .indHl
  | .res1A => .res .i1 (.reg .a)
  | .res2B => .res .i2 (.reg .b)
  | .res2C => .res .i2 (.reg .c)
  | .res2D => .res .i2 (.reg .d)
  | .res2E => .res .i2 (.reg .e)
  | .res2H => .res .i2 (.reg .h)
  | .res2L => .res .i2 (.reg .l)
  | .res2IndHl => .res .i2 .indHl
  | .res2A => .res .i2 (.reg .a)
  | .res3B => .res .i3 (.reg .b)
  | .res3C => .res .i3 (.reg .c)
  | .res3D => .res .i3 (.reg .d)
  | .res3E => .res .i3 (.reg .e)
  | .res3H => .res .i3 (.reg .h)
  | .res3L => .res .i3 (.reg .l)
  | .res3IndHl => .res .i3 .indHl
  | .res3A => .res .i3 (.reg .a)
  | .res4B => .res .i4 (.reg .b)
  | .res4C => .res .i4 (.reg .c)
  | .res4D => .res .i4 (.reg .d)
  | .res4E => .res .i4 (.reg .e)
  | .res4H => .res .i4 (.reg .h)
  | .res4L => .res .i4 (.reg .l)
  | .res4IndHl => .res .i4 .indHl
  | .res4A => .res .i4 (.reg .a)
  | .res5B => .res .i5 (.reg .b)
  | .res5C => .res .i5 (.reg .c)
  | .res5D => .res .i5 (.reg .d)
  | .res5E => .res .i5 (.reg .e)
  | .res5H => .res .i5 (.reg .h)
  | .res5L => .res .i5 (.reg .l)
  | .res5IndHl => .res .i5 .indHl
  | .res5A => .res .i5 (.reg .a)
  | .res6B => .res .i6 (.reg .b)
  | .res6C => .res .i6 (.reg .c)
  | .res6D => .res .i6 (.reg .d)
  | .res6E => .res .i6 (.reg .e)
  | .res6H => .res .i6 (.reg .h)
  | .res6L => .res .i6 (.reg .l)
  | .res6IndHl => .res .i6 .indHl
  | .res6A => .res .i6 (.reg .a)
  | .res7B => .res .i7 (.reg .b)
  | .res7C => .res .i7 (.reg .c)
  | .res7D => .res .i7 (.reg .d)
  | .res7E => .res .i7 (.reg .e)
  | .res7H => .res .i7 (.reg .h)
  | .res7L => .res .i7 (.reg .l)
  | .res7IndHl => .res .i7 .indHl
  | .res7A => .res .i7 (.reg .a)
  | .set0B => .set .i0 (.reg .b)
  | .set0C => .set .i0 (.reg .c)
  | .set0D => .set .i0 (.reg .d)
  | .set0E => .set .i0 (.reg .e)
  | .set0H => .set .i0 (.reg .h)
  | .set0L => .set .i0 (.reg .l)
  | .set0IndHl => .set .i0 .indHl
  | .set0A => .set .i0 (.reg .a)
  | .set1B => .set .i1 (.reg .b)
  | .set1C => .set .i1 (.reg .c)
  | .set1D => .set .i1 (.reg .d)
  | .set1E => .set .i1 (.reg .e)
  | .set1H => .set .i1 (.reg .h)
  | .set1L => .set .i1 (.reg .l)
  | .set1IndHl => .set .i1 .indHl
  | .set1A => .set .i1 (.reg .a)
  | .set2B => .set .i2 (.reg .b)
  | .set2C => .set .i2 (.reg .c)
  | .set2D => .set .i2 (.reg .d)
  | .set2E => .set .i2 (.reg .e)
  | .set2H => .set .i2 (.reg .h)
  | .set2L => .set .i2 (.reg .l)
  | .set2IndHl => .set .i2 .indHl
  | .set2A => .set .i2 (.reg .a)
  | .set3B => .set .i3 (.reg .b)
  | .set3C => .set .i3 (.reg .c)
  | .set3D => .set .i3 (.reg .d)
  | .set3E => .set .i3 (.reg .e)
  | .set3H => .set .i3 (.reg .h)
  | .set3L => .set .i3 (.reg .l)
  | .set3IndHl => .set .i3 .indHl
  | .set3A => .set .i3 (.reg .a)
  | .set4B => .set .i4 (.reg .b)
  | .set4C => .set .i4 (.reg .c)
  | .set4D => .set .i4 (.reg .d)
  | .set4E => .set .i4 (.reg .e)
  | .set4H => .set .i4 (.reg .h)
  | .set4L => .set .i4 (.reg .l)
  | .set4IndHl => .set .i4 .indHl
  | .set4A => .set .i4 (.reg .a)
  | .set5B => .set .i5 (.reg .b)
  | .set5C => .set .i5 (.reg .c)
  | .set5D => .set .i5 (.reg .d)
  | .set5E => .set .i5 (.reg .e)
  | .set5H => .set .i5 (.reg .h)
  | .set5L => .set .i5 (.reg .l)
  | .set5IndHl => .set .i5 .indHl
  | .set5A => .set .i5 (.reg .a)
  | .set6B => .set .i6 (.reg .b)
  | .set6C => .set .i6 (.reg .c)
  | .set6D => .set .i6 (.reg .d)
  | .set6E => .set .i6 (.reg .e)
  | .set6H => .set .i6 (.reg .h)
  | .set6L => .set .i6 (.reg .l)
  | .set6IndHl => .set .i6 .indHl
  | .set6A => .set .i6 (.reg .a)
  | .set7B => .set .i7 (.reg .b)
  | .set7C => .set .i7 (.reg .c)
  | .set7D => .set .i7 (.reg .d)
  | .set7E => .set .i7 (.reg .e)
  | .set7H => .set .i7 (.reg .h)
  | .set7L => .set .i7 (.reg .l)
  | .set7IndHl => .set .i7 .indHl
  | .set7A => .set .i7 (.reg .a)

theorem fieldX_lt (op : Byte) : fieldX op < 4 := by
  have := op.isLt; unfold fieldX; omega

/-- `exec` is the run of the instruction's shape. -/
theorem exec_eq (i : Instr) (s : State) : exec i s = (shape i).run s := by
  cases i
  case prefixCb op2 =>
    show execPrefixCb op2 s = (Shape.ofPrefixed op2).run s
    have hx := fieldX_lt op2
    unfold execPrefixCb Shape.ofPrefixed
    generalize fieldX op2 = x at hx ⊢
    rcases x with _ | _ | _ | _ | x <;> first | omega | rfl
  all_goals rfl

/-- The addresses a shape stores to. -/
def Shape.stores (x : Shape) (s : State) : List Word :=
  match x with
  | .store a _ _ => [a.at s]
  | .storeMove _ => [s.hl]
  | .storeSp nn => [nn, nn + 1]
  | .push _ => [s.sp - 1, s.sp - 2]
  | .inc .indHl => [s.hl]
  | .dec .indHl => [s.hl]
  | .shift _ .indHl => [s.hl]
  | .res _ .indHl => [s.hl]
  | .set _ .indHl => [s.hl]
  | .call _ => [s.sp - 1, s.sp - 2]
  | .callIf cc _ => if condHolds cc s then [s.sp - 1, s.sp - 2] else []
  | .rst _ => [s.sp - 1, s.sp - 2]
  | _ => []

/-- The 8-bit registers a shape may write, F apart. -/
def Shape.dests : Shape → List Reg8
  | .ld dst _ => [dst]
  | .ldImm dst _ => [dst]
  | .load dst _ _ => [dst]
  | .storeMove _ => [.h, .l]
  | .loadMove _ => [.a, .h, .l]
  | .ld16 .bc _ => [.b, .c]
  | .ld16 .de _ => [.d, .e]
  | .ld16 .hl _ => [.h, .l]
  | .pop .bc => [.b, .c]
  | .pop .de => [.d, .e]
  | .pop .hl => [.h, .l]
  | .pop .af => [.a]
  | .alu .cp _ => []
  | .alu _ _ => [.a]
  | .aluImm .cp _ => []
  | .aluImm _ _ => [.a]
  | .inc (.reg r) => [r]
  | .dec (.reg r) => [r]
  | .daa => [.a]
  | .cpl => [.a]
  | .addHl _ => [.h, .l]
  | .inc16 .bc => [.b, .c]
  | .inc16 .de => [.d, .e]
  | .inc16 .hl => [.h, .l]
  | .dec16 .bc => [.b, .c]
  | .dec16 .de => [.d, .e]
  | .dec16 .hl => [.h, .l]
  | .ldHlSp _ => [.h, .l]
  | .rotA _ => [.a]
  | .shift _ (.reg r) => [r]
  | .res _ (.reg r) => [r]
  | .set _ (.reg r) => [r]
  | _ => []

/-- Whether a shape may write F. -/
def Shape.writesF : Shape → Bool
  | .pop .af => true
  | .alu _ _ => true
  | .aluImm _ _ => true
  | .inc _ => true
  | .dec _ => true
  | .daa => true
  | .cpl => true
  | .scf => true
  | .ccf => true
  | .addHl _ => true
  | .addSp _ => true
  | .ldHlSp _ => true
  | .rotA _ => true
  | .shift _ _ => true
  | .bit _ _ => true
  | _ => false

/-- Whether a shape may write SP. -/
def Shape.writesSp : Shape → Bool
  | .ld16 .sp _ => true
  | .ldSpHl => true
  | .push _ => true
  | .pop _ => true
  | .inc16 .sp => true
  | .dec16 .sp => true
  | .addSp _ => true
  | .call _ => true
  | .callIf _ _ => true
  | .rst _ => true
  | .ret => true
  | .retIf _ => true
  | .reti => true
  | _ => false

/-- Whether a shape may transfer control. -/
def Shape.transfers : Shape → Bool
  | .jr _ => true
  | .jrIf _ _ => true
  | .jp _ => true
  | .jpIf _ _ => true
  | .jpHl => true
  | .call _ => true
  | .callIf _ _ => true
  | .rst _ => true
  | .ret => true
  | .retIf _ => true
  | .reti => true
  | _ => false

/-- The operand field of a prefixed opcode is (HL) exactly at `z = 6` (R93). -/
theorem R8.ofField_indHl (z : Oct) : R8.ofField z = .indHl ↔ z = .i6 := by cases z <;> decide

theorem storeAddresses_eq (i : Instr) (s : State) : storeAddresses i s = (shape i).stores s := by
  cases i
  case prefixCb op2 =>
    show (if fieldZ op2 = .i6 ∧ fieldX op2 ≠ 1 then [s.hl] else []) = (Shape.ofPrefixed op2).stores s
    have hx := fieldX_lt op2
    unfold Shape.ofPrefixed
    generalize fieldX op2 = x at hx ⊢
    generalize fieldZ op2 = z
    rcases x with _ | _ | _ | _ | x <;> first | omega | (cases z <;> rfl)
  all_goals rfl

theorem destRegs_eq (i : Instr) : destRegs i = (shape i).dests := by
  cases i
  case prefixCb op2 =>
    show (match R8.ofField (fieldZ op2) with
      | .reg r => if fieldX op2 = 1 then [] else [r]
      | .indHl => []) = (Shape.ofPrefixed op2).dests
    have hx := fieldX_lt op2
    unfold Shape.ofPrefixed
    generalize fieldX op2 = x at hx ⊢
    generalize R8.ofField (fieldZ op2) = z
    rcases x with _ | _ | _ | _ | x <;> first | omega | (cases z <;> rfl)
  all_goals rfl

theorem writesF_eq (i : Instr) : writesF i = (shape i).writesF := by
  cases i
  case prefixCb op2 =>
    show decide (fieldX op2 < 2) = (Shape.ofPrefixed op2).writesF
    have hx := fieldX_lt op2
    unfold Shape.ofPrefixed
    generalize fieldX op2 = x at hx ⊢
    rcases x with _ | _ | _ | _ | x <;> first | omega | rfl
  all_goals rfl

theorem writesSp_eq (i : Instr) : writesSp i = (shape i).writesSp := by
  cases i
  case prefixCb op2 =>
    show false = (Shape.ofPrefixed op2).writesSp
    have hx := fieldX_lt op2
    unfold Shape.ofPrefixed
    generalize fieldX op2 = x at hx ⊢
    rcases x with _ | _ | _ | _ | x <;> first | omega | rfl
  all_goals rfl

theorem transfersControl_eq (i : Instr) : transfersControl i = (shape i).transfers := by
  cases i
  case prefixCb op2 =>
    show false = (Shape.ofPrefixed op2).transfers
    have hx := fieldX_lt op2
    unfold Shape.ofPrefixed
    generalize fieldX op2 = x at hx ⊢
    rcases x with _ | _ | _ | _ | x <;> first | omega | rfl
  all_goals rfl

/-! ## The shapes of the blocks of the opcode map -/

theorem shape_ofLd_reg (dst r : Reg8) : shape (Instr.ofLd (.reg dst) (.reg r)) = .ld dst r := by
  cases dst <;> cases r <;> rfl

theorem shape_ofLd_load (dst : Reg8) : shape (Instr.ofLd (.reg dst) .indHl) = .load dst .hl 2 := by cases dst <;> rfl

theorem shape_ofLd_store (r : Reg8) : shape (Instr.ofLd .indHl (.reg r)) = .store .hl (.reg r) 2 := by cases r <;> rfl

theorem shape_ofLdImm (dst : Reg8) (n : Byte) : shape (Instr.ofLdImm (.reg dst) n) = .ldImm dst n := by
  cases dst <;> rfl

theorem shape_ofInc (x : R8) : shape (Instr.ofInc x) = .inc x := by rcases x with r | _ <;> [cases r; skip] <;> rfl

theorem shape_ofDec (x : R8) : shape (Instr.ofDec x) = .dec x := by rcases x with r | _ <;> [cases r; skip] <;> rfl

theorem shape_ofAlu (op : AluOp) (x : R8) : shape (Instr.ofAlu op x) = .alu op x := by
  rcases x with r | _ <;> cases op <;> first | rfl | (cases r <;> rfl)

theorem shape_ofAluImm (op : AluOp) (n : Byte) : shape (Instr.ofAluImm op n) = .aluImm op n := by cases op <;> rfl

theorem shape_ofLd16 (rr : Reg16) (nn : Word) : shape (Instr.ofLd16 rr nn) = .ld16 rr nn := by cases rr <;> rfl

theorem shape_ofAddHl (rr : Reg16) : shape (Instr.ofAddHl rr) = .addHl rr := by cases rr <;> rfl

theorem shape_ofInc16 (rr : Reg16) : shape (Instr.ofInc16 rr) = .inc16 rr := by cases rr <;> rfl

theorem shape_ofDec16 (rr : Reg16) : shape (Instr.ofDec16 rr) = .dec16 rr := by cases rr <;> rfl

theorem shape_ofPush (rr : RegStk) : shape (Instr.ofPush rr) = .push rr := by cases rr <;> rfl

theorem shape_ofPop (rr : RegStk) : shape (Instr.ofPop rr) = .pop rr := by cases rr <;> rfl

theorem shape_ofJr (cc : Cond) (e : Byte) : shape (Instr.ofJr cc e) = .jrIf cc e := by cases cc <;> rfl

theorem shape_ofJp (cc : Cond) (nn : Word) : shape (Instr.ofJp cc nn) = .jpIf cc nn := by cases cc <;> rfl

theorem shape_ofCall (cc : Cond) (nn : Word) : shape (Instr.ofCall cc nn) = .callIf cc nn := by cases cc <;> rfl

theorem shape_ofRet (cc : Cond) : shape (Instr.ofRet cc) = .retIf cc := by cases cc <;> rfl

theorem shape_ofRst (y : Oct) : shape (Instr.ofRst y) = .rst (BitVec.ofNat 16 (8 * y.val)) := by cases y <;> rfl

theorem shape_ofShift (op : ShiftOp) (x : R8) : shape (Instr.ofShift op x) = .shift op x := by
  rcases x with r | _ <;> cases op <;> first | rfl | (cases r <;> rfl)

theorem shape_ofBit (n : Oct) (x : R8) : shape (Instr.ofBit n x) = .bit n x := by
  rcases x with r | _ <;> cases n <;> first | rfl | (cases r <;> rfl)

theorem shape_ofRes (n : Oct) (x : R8) : shape (Instr.ofRes n x) = .res n x := by
  rcases x with r | _ <;> cases n <;> first | rfl | (cases r <;> rfl)

theorem shape_ofSet (n : Oct) (x : R8) : shape (Instr.ofSet n x) = .set n x := by
  rcases x with r | _ <;> cases n <;> first | rfl | (cases r <;> rfl)

theorem shape_decodePrefixed (op2 : Byte) : shape (decodePrefixed op2) = Shape.ofPrefixed op2 := by
  unfold decodePrefixed Shape.ofPrefixed
  have hx := fieldX_lt op2
  generalize fieldX op2 = x at hx ⊢
  rcases x with _ | _ | _ | _ | x
  · exact shape_ofShift _ _
  · exact shape_ofBit _ _
  · exact shape_ofRes _ _
  · exact shape_ofSet _ _
  · omega

end Sys2Proof.Machine
end

