-- ==== Sys2Proof/Laws/Ops.lean ====
section
/-! SUPPORT. What fetching, the stack and the operand accesses can do, said once per operation. -/

namespace Sys2Proof.Machine

/-! ## Registers beside `Kept` -/

theorem Kept.of_eq {s t : State} (clock : t.clock = s.clock) (params : t.params = s.params)
    (moves : t.joypadMoves = s.joypadMoves) (frame : t.frameBit = s.frameBit) (ppu : t.ppu = s.ppu)
    (cart : t.cart = s.cart) (boot : t.bootDisabled = s.bootDisabled) (ram : t.ram = s.ram) : Kept s t :=
  ⟨clock, params, moves, frame, by rw [ppu], by rw [ppu], by rw [ppu], by rw [ppu], by rw [cart], by rw [cart],
    fun h => boot.trans h, fun h => ram ▸ h⟩

@[simp] theorem State.setSp_kept (s : State) (v : Word) : Kept s (s.setSp v) := .of_eq rfl rfl rfl rfl rfl rfl rfl rfl
@[simp] theorem State.setPc_kept (s : State) (v : Word) : Kept s (s.setPc v) := .of_eq rfl rfl rfl rfl rfl rfl rfl rfl
@[simp] theorem State.setBusy_kept (s : State) (v : Nat) : Kept s (s.setBusy v) := .of_eq rfl rfl rfl rfl rfl rfl rfl rfl
@[simp] theorem State.setIme_kept (s : State) (v : Bool) : Kept s (s.setIme v) := .of_eq rfl rfl rfl rfl rfl rfl rfl rfl
@[simp] theorem State.setEi_kept (s : State) (v : Bool) : Kept s (s.setEi v) := .of_eq rfl rfl rfl rfl rfl rfl rfl rfl
@[simp] theorem State.setHalted_kept (s : State) (v : Bool) : Kept s (s.setHalted v) :=
  .of_eq rfl rfl rfl rfl rfl rfl rfl rfl
@[simp] theorem State.setStopped_kept (s : State) (v : Bool) : Kept s (s.setStopped v) :=
  .of_eq rfl rfl rfl rfl rfl rfl rfl rfl
@[simp] theorem State.setOutcome_kept (s : State) (v : RunOutcome) : Kept s (s.setOutcome v) :=
  .of_eq rfl rfl rfl rfl rfl rfl rfl rfl
@[simp] theorem State.setIf_kept (s : State) (v : BitVec 5) : Kept s (s.setIf v) :=
  .of_eq rfl rfl rfl rfl rfl rfl rfl rfl
@[simp] theorem State.setF_kept (s : State) (v : Byte) : Kept s (s.setF v) := .of_eq rfl rfl rfl rfl rfl rfl rfl rfl
@[simp] theorem State.setFlags_kept (s : State) (z n h c : Bool) : Kept s (s.setFlags z n h c) :=
  .of_eq rfl rfl rfl rfl rfl rfl rfl rfl
@[simp] theorem State.set8_kept (s : State) (r : Reg8) (v : Byte) : Kept s (s.set8 r v) := by
  refine .of_eq ?_ ?_ ?_ ?_ ?_ ?_ ?_ ?_ <;> simp
@[simp] theorem State.set16_kept (s : State) (rr : Reg16) (v : Word) : Kept s (s.set16 rr v) := by
  refine .of_eq ?_ ?_ ?_ ?_ ?_ ?_ ?_ ?_ <;> simp
@[simp] theorem State.setStk_kept (s : State) (rr : RegStk) (v : Word) : Kept s (s.setStk rr v) := by
  refine .of_eq ?_ ?_ ?_ ?_ ?_ ?_ ?_ ?_ <;> simp
@[simp] theorem State.applyAlu_kept (s : State) (op : AluOp) (b : Byte) : Kept s (s.applyAlu op b) := by
  refine .of_eq ?_ ?_ ?_ ?_ ?_ ?_ ?_ ?_ <;> simp

/-! ## Single accesses -/

/-- A byte read of the bus: the byte with the state after the read, or the record of an invalid read. -/
theorem busRead_of_peek {a : Word} {s : State} {v : Byte} (h : busPeek true s a = some v) :
    busRead a s = .ok v (afterRead s a) := by simp [busRead, busReadWith, h]

theorem busRead_of_none {a : Word} {s : State} (h : busPeek true s a = none) :
    busRead a s = .stop (raiseFault (.invalidAccess a .read) s) := by simp [busRead, busReadWith, h]

/-- A fetch moves the pc past the byte it reads, or stops before moving it (R91, R301). -/
theorem fetch8_of_peek {s : State} {v : Byte} (h : busPeek true s s.pc = some v) :
    fetch8 s = .ok v ((afterRead s s.pc).setPc (s.pc + 1)) := by simp [fetch8, busRead_of_peek h]

theorem fetch8_of_none {s : State} (h : busPeek true s s.pc = none) :
    fetch8 s = .stop (raiseFault (.invalidAccess s.pc .read) s) := by simp [fetch8, busRead_of_none h]

/-! ## The stack -/

/-- A push: it ends with SP two lower, or stops at its first or its second write (R140, R301). -/
theorem push16_cases (v : Word) (s : State) :
    (∃ t, push16 v s = .ok () t ∧ Kept s t ∧ CpuKept (s.setSp (s.sp - 2)) t ∧ t.outcome = s.outcome) ∨
    (∃ t a d, push16 v s = .stop t ∧ Kept s t ∧ (CpuKept (s.setSp (s.sp - 1)) t ∨ CpuKept (s.setSp (s.sp - 2)) t) ∧
      t.outcome = .faulted (.invalidAccess a d)) := by
  unfold push16
  have h1 := busWrite_tame (s.sp - 1) (hi v) (s.setSp (s.sp - 1))
  generalize busWrite (s.sp - 1) (hi v) (s.setSp (s.sp - 1)) = x at h1
  cases h1 with
  | stop a d k c o => exact .inr ⟨_, a, d, rfl, (s.setSp_kept _).trans k, .inl c, o⟩
  | ok u k c o =>
    rename_i t
    have hsp : t.sp - 1 = s.sp - 2 := by rw [c.sp, State.setSp_sp]; bv_omega
    have h2 := busWrite_tame (t.sp - 1) (lo v) (t.setSp (t.sp - 1))
    have ck : CpuKept (s.setSp (s.sp - 2)) (t.setSp (t.sp - 1)) :=
      ⟨c.regs, hsp, c.pc, c.halted, c.stopped, c.ime, c.eiPending, c.busy⟩
    have kk : Kept s (t.setSp (t.sp - 1)) := ((s.setSp_kept _).trans k).trans (t.setSp_kept _)
    simp only [Access.bind_ok]
    generalize busWrite (t.sp - 1) (lo v) (t.setSp (t.sp - 1)) = y at h2
    cases h2 with
    | stop a d k' c' o' => exact .inr ⟨_, a, d, rfl, kk.trans k', .inr (ck.trans c'), o'⟩
    | ok u' k' c' o' => exact .inl ⟨_, rfl, kk.trans k', ck.trans c', by rw [o']; exact o⟩

theorem push16_ramDiff (v : Word) (s : State) : RamDiff [s.sp - 1, s.sp - 2] s (push16 v s).after := by
  unfold push16
  have h1 := busWrite_ramDiff (s.sp - 1) (hi v) (s.setSp (s.sp - 1))
  have k1 := busWrite_tame (s.sp - 1) (hi v) (s.setSp (s.sp - 1))
  generalize busWrite (s.sp - 1) (hi v) (s.setSp (s.sp - 1)) = x at h1 k1
  have h1' : RamDiff [s.sp - 1] s x.after := h1.congr_left rfl (fun _ => rfl)
  cases x with
  | stop t =>
    intro k hk
    rcases h1' k hk with ⟨b, hb, h⟩ | ⟨hb, h⟩
    · exact .inl ⟨b, List.mem_cons.2 (.inl (List.mem_singleton.1 hb)), h⟩
    · exact .inr ⟨List.mem_cons.2 (.inl (List.mem_singleton.1 hb)), h⟩
  | ok u t =>
    have c := k1.cpu
    simp only [Access.after_ok] at h1' c
    have hsp : t.sp - 1 = s.sp - 2 := by rw [c.sp, State.setSp_sp]; bv_omega
    have h2 := busWrite_ramDiff (t.sp - 1) (lo v) (t.setSp (t.sp - 1))
    rw [Access.bind_ok]
    rw [hsp] at h2 ⊢
    exact RamDiff.trans ((s.setSp_kept _).trans k1.kept) h1' (h2.congr_left rfl (fun _ => rfl))

/-- A pop: it ends with SP two higher, or stops at its first or its second read (R140, R301). It changes no memory. -/
theorem pop16_cases (s : State) :
    (∃ v t, pop16 s = .ok v t ∧ Kept s t ∧ CpuKept (s.setSp (s.sp + 2)) t ∧ t.outcome = s.outcome ∧ t.ram = s.ram) ∨
    (∃ t a d, pop16 s = .stop t ∧ Kept s t ∧ (CpuKept s t ∨ CpuKept (s.setSp (s.sp + 1)) t) ∧
      t.outcome = .faulted (.invalidAccess a d) ∧ t.ram = s.ram) := by
  unfold pop16
  have h1 := busRead_tame s.sp s
  have r1 := (busReadWith_after true s.sp s).1
  change (busRead s.sp s).after.ram = s.ram at r1
  generalize busRead s.sp s = x at h1 r1
  cases h1 with
  | stop a d k c o => exact .inr ⟨_, a, d, rfl, k, .inl c, o, r1⟩
  | ok l k c o =>
    rename_i t
    have hsp : t.sp + 1 = s.sp + 1 := by rw [c.sp]
    have ck : CpuKept (s.setSp (s.sp + 1)) (t.setSp (t.sp + 1)) :=
      ⟨c.regs, hsp, c.pc, c.halted, c.stopped, c.ime, c.eiPending, c.busy⟩
    have kk : Kept s (t.setSp (t.sp + 1)) := k.trans (t.setSp_kept _)
    have h2 := busRead_tame (t.sp + 1) (t.setSp (t.sp + 1))
    have r2 := (busReadWith_after true (t.sp + 1) (t.setSp (t.sp + 1))).1
    change (busRead (t.sp + 1) (t.setSp (t.sp + 1))).after.ram = t.ram at r2
    simp only [Access.bind_ok, State.setSp_sp]
    generalize busRead (t.sp + 1) (t.setSp (t.sp + 1)) = y at h2 r2
    cases h2 with
    | stop a d k' c' o' => exact .inr ⟨_, a, d, rfl, kk.trans k', .inr (ck.trans c'), o', r2.trans r1⟩
    | ok u' k' c' o' =>
      rename_i w
      refine .inl ⟨_, _, rfl, (kk.trans k').trans (w.setSp_kept _), ?_, o'.trans o, r2.trans r1⟩
      exact ⟨c'.regs.trans ck.regs, by rw [State.setSp_sp, State.setSp_sp, c'.sp, ck.sp, State.setSp_sp]; bv_omega,
        c'.pc.trans ck.pc, c'.halted.trans ck.halted, c'.stopped.trans ck.stopped, c'.ime.trans ck.ime,
        c'.eiPending.trans ck.eiPending, c'.busy.trans ck.busy⟩

/-! ## Operands -/

theorem readR8_tame (x : R8) (s : State) : (readR8 x s).Tame s := by
  cases x with
  | reg r => exact .ok _ (Kept.refl s) (CpuKept.refl s) rfl
  | indHl => exact busRead_tame _ _

theorem readR8_ram (x : R8) (s : State) : (readR8 x s).after.ram = s.ram := by
  cases x with
  | reg r => rfl
  | indHl => exact (busReadWith_after true s.hl s).1

end Sys2Proof.Machine
end

