-- ==== Sys2Proof/Tests/Slice0.lean ====
section
/-! SUPPORT. Tests: a word of every row decoded, the spec's own vectors of one instruction (95_test_vectors.md), the source's
worked examples, and for every statement with hypotheses a state and operands that meet them. -/

namespace Sys2Proof.Tests

open Sys2Proof.Machine

set_option maxRecDepth 20000
set_option Elab.async false

/-! ## Helpers -/

/-- The common start state of the vectors (95_test_vectors.md section 0). -/
def base : State := { State.reset with sp := 0xFFFE, pc := 0xC000, bootDisabled := true }

/-- The same with `UNMAPPED_POLICY = Fault`. -/
def strict : State := { base with params := { unmappedPolicy := .fault } }

/-- Bytes put at addresses. -/
def poke : List (Word × Byte) → State → State
  | [], s => s
  | (a, v) :: r, s => poke r (placeByte a v s)

/-- The state after one tick from `s` with `code` at its pc and `mem` in memory. -/
def ran (code : List Byte) (mem : List (Word × Byte)) (s : State) : State :=
  match step (poke mem (placeBytes s.pc code s)) with
  | .next t => t
  | _ => State.reset

/-- The pc, SP, the registers, the ticks still to wait, and some bytes of memory. -/
def holds (t : State) (pc sp : Word) (regs : Regs) (busy : Nat) (mem : List (Word × Byte)) : Bool :=
  decide (t.pc = pc) && decide (t.sp = sp) && decide (t.regs = regs) && decide (t.busy = busy) &&
    mem.all fun c => decide (busPeek true t c.1 = some c.2)

/-- Whether a result is a next state with a property. -/
def nextWith (r : Result) (p : State → Bool) : Bool :=
  match r with
  | .next t => p t
  | _ => false

/-- Whether an access ends well. -/
def okay {α : Type} : Access α → Bool
  | .ok _ _ => true
  | .stop _ => false

/-- Whether every byte sequence decodes to its instruction, all bytes used. -/
def decodes (l : List (List Byte × Instr)) : Bool := l.all fun p => decide (decode p.1 = .ok (p.2, []))

/-! ## WellFormed: the one check, and a term it refuses -/

theorem test_wellFormed_refuses_the_prefix_row : (Instr.prefixCb 0x37).wellFormed = false := by decide

theorem test_wellFormed_accepts_the_prefixed_instruction : Instr.swapA.wellFormed = true := by decide

/-! ## Decoding: a word of every row, the opcode and operand bytes from the maps of 30_encoding.md R98 and R99 -/

theorem test_decode_primary_0x : decodes [
    ([0x00], .nop), ([0x01, 0x34, 0x12], .ldBcD16 0x1234), ([0x02], .ldIndBcA), ([0x03], .incBc), ([0x04], .incB),
    ([0x05], .decB), ([0x06, 0xA5], .ldBD8 0xA5), ([0x07], .rlca), ([0x08, 0x34, 0x12], .ldIndA16Sp 0x1234),
    ([0x09], .addHlBc), ([0x0A], .ldAIndBc), ([0x0B], .decBc), ([0x0C], .incC), ([0x0D], .decC),
    ([0x0E, 0xA5], .ldCD8 0xA5), ([0x0F], .rrca)] = true := by decide +kernel

theorem test_decode_primary_1x : decodes [
    ([0x10, 0xA5], .stop 0xA5), ([0x11, 0x34, 0x12], .ldDeD16 0x1234), ([0x12], .ldIndDeA), ([0x13], .incDe),
    ([0x14], .incD), ([0x15], .decD), ([0x16, 0xA5], .ldDD8 0xA5), ([0x17], .rla), ([0x18, 0xA5], .jrE8 0xA5),
    ([0x19], .addHlDe), ([0x1A], .ldAIndDe), ([0x1B], .decDe), ([0x1C], .incE), ([0x1D], .decE),
    ([0x1E, 0xA5], .ldED8 0xA5), ([0x1F], .rra)] = true := by decide +kernel

theorem test_decode_primary_2x : decodes [
    ([0x20, 0xA5], .jrNzE8 0xA5), ([0x21, 0x34, 0x12], .ldHlD16 0x1234), ([0x22], .ldIndHlIncA), ([0x23], .incHl),
    ([0x24], .incH), ([0x25], .decH), ([0x26, 0xA5], .ldHD8 0xA5), ([0x27], .daa), ([0x28, 0xA5], .jrZE8 0xA5),
    ([0x29], .addHlHl), ([0x2A], .ldAIndHlInc), ([0x2B], .decHl), ([0x2C], .incL), ([0x2D], .decL),
    ([0x2E, 0xA5], .ldLD8 0xA5), ([0x2F], .cpl)] = true := by decide +kernel

theorem test_decode_primary_3x : decodes [
    ([0x30, 0xA5], .jrNcE8 0xA5), ([0x31, 0x34, 0x12], .ldSpD16 0x1234), ([0x32], .ldIndHlDecA), ([0x33], .incSp),
    ([0x34], .incIndHl), ([0x35], .decIndHl), ([0x36, 0xA5], .ldIndHlD8 0xA5), ([0x37], .scf),
    ([0x38, 0xA5], .jrCE8 0xA5), ([0x39], .addHlSp), ([0x3A], .ldAIndHlDec), ([0x3B], .decSp), ([0x3C], .incA),
    ([0x3D], .decA), ([0x3E, 0xA5], .ldAD8 0xA5), ([0x3F], .ccf)] = true := by decide +kernel

theorem test_decode_primary_4x : decodes [
    ([0x40], .ldBB), ([0x41], .ldBC), ([0x42], .ldBD), ([0x43], .ldBE), ([0x44], .ldBH), ([0x45], .ldBL),
    ([0x46], .ldBIndHl), ([0x47], .ldBA), ([0x48], .ldCB), ([0x49], .ldCC), ([0x4A], .ldCD), ([0x4B], .ldCE),
    ([0x4C], .ldCH), ([0x4D], .ldCL), ([0x4E], .ldCIndHl), ([0x4F], .ldCA)] = true := by decide +kernel

theorem test_decode_primary_5x : decodes [
    ([0x50], .ldDB), ([0x51], .ldDC), ([0x52], .ldDD), ([0x53], .ldDE), ([0x54], .ldDH), ([0x55], .ldDL),
    ([0x56], .ldDIndHl), ([0x57], .ldDA), ([0x58], .ldEB), ([0x59], .ldEC), ([0x5A], .ldED), ([0x5B], .ldEE),
    ([0x5C], .ldEH), ([0x5D], .ldEL), ([0x5E], .ldEIndHl), ([0x5F], .ldEA)] = true := by decide +kernel

theorem test_decode_primary_6x : decodes [
    ([0x60], .ldHB), ([0x61], .ldHC), ([0x62], .ldHD), ([0x63], .ldHE), ([0x64], .ldHH), ([0x65], .ldHL),
    ([0x66], .ldHIndHl), ([0x67], .ldHA), ([0x68], .ldLB), ([0x69], .ldLC), ([0x6A], .ldLD), ([0x6B], .ldLE),
    ([0x6C], .ldLH), ([0x6D], .ldLL), ([0x6E], .ldLIndHl), ([0x6F], .ldLA)] = true := by decide +kernel

theorem test_decode_primary_7x : decodes [
    ([0x70], .ldIndHlB), ([0x71], .ldIndHlC), ([0x72], .ldIndHlD), ([0x73], .ldIndHlE), ([0x74], .ldIndHlH),
    ([0x75], .ldIndHlL), ([0x76], .halt), ([0x77], .ldIndHlA), ([0x78], .ldAB), ([0x79], .ldAC), ([0x7A], .ldAD),
    ([0x7B], .ldAE), ([0x7C], .ldAH), ([0x7D], .ldAL), ([0x7E], .ldAIndHl), ([0x7F], .ldAA)] = true := by decide +kernel

theorem test_decode_primary_8x : decodes [
    ([0x80], .addAB), ([0x81], .addAC), ([0x82], .addAD), ([0x83], .addAE), ([0x84], .addAH), ([0x85], .addAL),
    ([0x86], .addAIndHl), ([0x87], .addAA), ([0x88], .adcAB), ([0x89], .adcAC), ([0x8A], .adcAD), ([0x8B], .adcAE),
    ([0x8C], .adcAH), ([0x8D], .adcAL), ([0x8E], .adcAIndHl), ([0x8F], .adcAA)] = true := by decide +kernel

theorem test_decode_primary_9x : decodes [
    ([0x90], .subB), ([0x91], .subC), ([0x92], .subD), ([0x93], .subE), ([0x94], .subH), ([0x95], .subL),
    ([0x96], .subIndHl), ([0x97], .subA), ([0x98], .sbcAB), ([0x99], .sbcAC), ([0x9A], .sbcAD), ([0x9B], .sbcAE),
    ([0x9C], .sbcAH), ([0x9D], .sbcAL), ([0x9E], .sbcAIndHl), ([0x9F], .sbcAA)] = true := by decide +kernel

theorem test_decode_primary_Ax : decodes [
    ([0xA0], .andB), ([0xA1], .andC), ([0xA2], .andD), ([0xA3], .andE), ([0xA4], .andH), ([0xA5], .andL),
    ([0xA6], .andIndHl), ([0xA7], .andA), ([0xA8], .xorB), ([0xA9], .xorC), ([0xAA], .xorD), ([0xAB], .xorE),
    ([0xAC], .xorH), ([0xAD], .xorL), ([0xAE], .xorIndHl), ([0xAF], .xorA)] = true := by decide +kernel

theorem test_decode_primary_Bx : decodes [
    ([0xB0], .orB), ([0xB1], .orC), ([0xB2], .orD), ([0xB3], .orE), ([0xB4], .orH), ([0xB5], .orL),
    ([0xB6], .orIndHl), ([0xB7], .orA), ([0xB8], .cpB), ([0xB9], .cpC), ([0xBA], .cpD), ([0xBB], .cpE),
    ([0xBC], .cpH), ([0xBD], .cpL), ([0xBE], .cpIndHl), ([0xBF], .cpA)] = true := by decide +kernel

theorem test_decode_primary_Cx : decodes [
    ([0xC0], .retNz), ([0xC1], .popBc), ([0xC2, 0x34, 0x12], .jpNzA16 0x1234), ([0xC3, 0x34, 0x12], .jpA16 0x1234),
    ([0xC4, 0x34, 0x12], .callNzA16 0x1234), ([0xC5], .pushBc), ([0xC6, 0xA5], .addAD8 0xA5), ([0xC7], .rst00),
    ([0xC8], .retZ), ([0xC9], .ret), ([0xCA, 0x34, 0x12], .jpZA16 0x1234), ([0xCC, 0x34, 0x12], .callZA16 0x1234),
    ([0xCD, 0x34, 0x12], .callA16 0x1234), ([0xCE, 0xA5], .adcAD8 0xA5), ([0xCF], .rst08)] = true := by decide +kernel

theorem test_decode_primary_Dx : decodes [
    ([0xD0], .retNc), ([0xD1], .popDe), ([0xD2, 0x34, 0x12], .jpNcA16 0x1234), ([0xD3], .undefinedD3),
    ([0xD4, 0x34, 0x12], .callNcA16 0x1234), ([0xD5], .pushDe), ([0xD6, 0xA5], .subD8 0xA5), ([0xD7], .rst10),
    ([0xD8], .retC), ([0xD9], .reti), ([0xDA, 0x34, 0x12], .jpCA16 0x1234), ([0xDB], .undefinedDB),
    ([0xDC, 0x34, 0x12], .callCA16 0x1234), ([0xDD], .undefinedDD), ([0xDE, 0xA5], .sbcAD8 0xA5), ([0xDF], .rst18)] = true := by decide +kernel

theorem test_decode_primary_Ex : decodes [
    ([0xE0, 0xA5], .ldhIndA8A 0xA5), ([0xE1], .popHl), ([0xE2], .ldIndCA), ([0xE3], .undefinedE3),
    ([0xE4], .undefinedE4), ([0xE5], .pushHl), ([0xE6, 0xA5], .andD8 0xA5), ([0xE7], .rst20),
    ([0xE8, 0xA5], .addSpE8 0xA5), ([0xE9], .jpHl), ([0xEA, 0x34, 0x12], .ldIndA16A 0x1234),
    ([0xEB], .undefinedEB), ([0xEC], .undefinedEC), ([0xED], .undefinedED), ([0xEE, 0xA5], .xorD8 0xA5),
    ([0xEF], .rst28)] = true := by decide +kernel

theorem test_decode_primary_Fx : decodes [
    ([0xF0, 0xA5], .ldhAIndA8 0xA5), ([0xF1], .popAf), ([0xF2], .ldAIndC), ([0xF3], .di), ([0xF4], .undefinedF4),
    ([0xF5], .pushAf), ([0xF6, 0xA5], .orD8 0xA5), ([0xF7], .rst30), ([0xF8, 0xA5], .ldHlSpE8 0xA5),
    ([0xF9], .ldSpHl), ([0xFA, 0x34, 0x12], .ldAIndA16 0x1234), ([0xFB], .ei), ([0xFC], .undefinedFC),
    ([0xFD], .undefinedFD), ([0xFE, 0xA5], .cpD8 0xA5), ([0xFF], .rst38)] = true := by decide +kernel

theorem test_decode_prefixed_0x : decodes [
    ([0xCB, 0x00], .rlcB), ([0xCB, 0x01], .rlcC), ([0xCB, 0x02], .rlcD), ([0xCB, 0x03], .rlcE),
    ([0xCB, 0x04], .rlcH), ([0xCB, 0x05], .rlcL), ([0xCB, 0x06], .rlcIndHl), ([0xCB, 0x07], .rlcA),
    ([0xCB, 0x08], .rrcB), ([0xCB, 0x09], .rrcC), ([0xCB, 0x0A], .rrcD), ([0xCB, 0x0B], .rrcE),
    ([0xCB, 0x0C], .rrcH), ([0xCB, 0x0D], .rrcL), ([0xCB, 0x0E], .rrcIndHl), ([0xCB, 0x0F], .rrcA)] = true := by decide +kernel

theorem test_decode_prefixed_1x : decodes [
    ([0xCB, 0x10], .rlB), ([0xCB, 0x11], .rlC), ([0xCB, 0x12], .rlD), ([0xCB, 0x13], .rlE), ([0xCB, 0x14], .rlH),
    ([0xCB, 0x15], .rlL), ([0xCB, 0x16], .rlIndHl), ([0xCB, 0x17], .rlA), ([0xCB, 0x18], .rrB),
    ([0xCB, 0x19], .rrC), ([0xCB, 0x1A], .rrD), ([0xCB, 0x1B], .rrE), ([0xCB, 0x1C], .rrH), ([0xCB, 0x1D], .rrL),
    ([0xCB, 0x1E], .rrIndHl), ([0xCB, 0x1F], .rrA)] = true := by decide +kernel

theorem test_decode_prefixed_2x : decodes [
    ([0xCB, 0x20], .slaB), ([0xCB, 0x21], .slaC), ([0xCB, 0x22], .slaD), ([0xCB, 0x23], .slaE),
    ([0xCB, 0x24], .slaH), ([0xCB, 0x25], .slaL), ([0xCB, 0x26], .slaIndHl), ([0xCB, 0x27], .slaA),
    ([0xCB, 0x28], .sraB), ([0xCB, 0x29], .sraC), ([0xCB, 0x2A], .sraD), ([0xCB, 0x2B], .sraE),
    ([0xCB, 0x2C], .sraH), ([0xCB, 0x2D], .sraL), ([0xCB, 0x2E], .sraIndHl), ([0xCB, 0x2F], .sraA)] = true := by decide +kernel

theorem test_decode_prefixed_3x : decodes [
    ([0xCB, 0x30], .swapB), ([0xCB, 0x31], .swapC), ([0xCB, 0x32], .swapD), ([0xCB, 0x33], .swapE),
    ([0xCB, 0x34], .swapH), ([0xCB, 0x35], .swapL), ([0xCB, 0x36], .swapIndHl), ([0xCB, 0x37], .swapA),
    ([0xCB, 0x38], .srlB), ([0xCB, 0x39], .srlC), ([0xCB, 0x3A], .srlD), ([0xCB, 0x3B], .srlE),
    ([0xCB, 0x3C], .srlH), ([0xCB, 0x3D], .srlL), ([0xCB, 0x3E], .srlIndHl), ([0xCB, 0x3F], .srlA)] = true := by decide +kernel

theorem test_decode_prefixed_4x : decodes [
    ([0xCB, 0x40], .bit0B), ([0xCB, 0x41], .bit0C), ([0xCB, 0x42], .bit0D), ([0xCB, 0x43], .bit0E),
    ([0xCB, 0x44], .bit0H), ([0xCB, 0x45], .bit0L), ([0xCB, 0x46], .bit0IndHl), ([0xCB, 0x47], .bit0A),
    ([0xCB, 0x48], .bit1B), ([0xCB, 0x49], .bit1C), ([0xCB, 0x4A], .bit1D), ([0xCB, 0x4B], .bit1E),
    ([0xCB, 0x4C], .bit1H), ([0xCB, 0x4D], .bit1L), ([0xCB, 0x4E], .bit1IndHl), ([0xCB, 0x4F], .bit1A)] = true := by decide +kernel

theorem test_decode_prefixed_5x : decodes [
    ([0xCB, 0x50], .bit2B), ([0xCB, 0x51], .bit2C), ([0xCB, 0x52], .bit2D), ([0xCB, 0x53], .bit2E),
    ([0xCB, 0x54], .bit2H), ([0xCB, 0x55], .bit2L), ([0xCB, 0x56], .bit2IndHl), ([0xCB, 0x57], .bit2A),
    ([0xCB, 0x58], .bit3B), ([0xCB, 0x59], .bit3C), ([0xCB, 0x5A], .bit3D), ([0xCB, 0x5B], .bit3E),
    ([0xCB, 0x5C], .bit3H), ([0xCB, 0x5D], .bit3L), ([0xCB, 0x5E], .bit3IndHl), ([0xCB, 0x5F], .bit3A)] = true := by decide +kernel

theorem test_decode_prefixed_6x : decodes [
    ([0xCB, 0x60], .bit4B), ([0xCB, 0x61], .bit4C), ([0xCB, 0x62], .bit4D), ([0xCB, 0x63], .bit4E),
    ([0xCB, 0x64], .bit4H), ([0xCB, 0x65], .bit4L), ([0xCB, 0x66], .bit4IndHl), ([0xCB, 0x67], .bit4A),
    ([0xCB, 0x68], .bit5B), ([0xCB, 0x69], .bit5C), ([0xCB, 0x6A], .bit5D), ([0xCB, 0x6B], .bit5E),
    ([0xCB, 0x6C], .bit5H), ([0xCB, 0x6D], .bit5L), ([0xCB, 0x6E], .bit5IndHl), ([0xCB, 0x6F], .bit5A)] = true := by decide +kernel

theorem test_decode_prefixed_7x : decodes [
    ([0xCB, 0x70], .bit6B), ([0xCB, 0x71], .bit6C), ([0xCB, 0x72], .bit6D), ([0xCB, 0x73], .bit6E),
    ([0xCB, 0x74], .bit6H), ([0xCB, 0x75], .bit6L), ([0xCB, 0x76], .bit6IndHl), ([0xCB, 0x77], .bit6A),
    ([0xCB, 0x78], .bit7B), ([0xCB, 0x79], .bit7C), ([0xCB, 0x7A], .bit7D), ([0xCB, 0x7B], .bit7E),
    ([0xCB, 0x7C], .bit7H), ([0xCB, 0x7D], .bit7L), ([0xCB, 0x7E], .bit7IndHl), ([0xCB, 0x7F], .bit7A)] = true := by decide +kernel

theorem test_decode_prefixed_8x : decodes [
    ([0xCB, 0x80], .res0B), ([0xCB, 0x81], .res0C), ([0xCB, 0x82], .res0D), ([0xCB, 0x83], .res0E),
    ([0xCB, 0x84], .res0H), ([0xCB, 0x85], .res0L), ([0xCB, 0x86], .res0IndHl), ([0xCB, 0x87], .res0A),
    ([0xCB, 0x88], .res1B), ([0xCB, 0x89], .res1C), ([0xCB, 0x8A], .res1D), ([0xCB, 0x8B], .res1E),
    ([0xCB, 0x8C], .res1H), ([0xCB, 0x8D], .res1L), ([0xCB, 0x8E], .res1IndHl), ([0xCB, 0x8F], .res1A)] = true := by decide +kernel

theorem test_decode_prefixed_9x : decodes [
    ([0xCB, 0x90], .res2B), ([0xCB, 0x91], .res2C), ([0xCB, 0x92], .res2D), ([0xCB, 0x93], .res2E),
    ([0xCB, 0x94], .res2H), ([0xCB, 0x95], .res2L), ([0xCB, 0x96], .res2IndHl), ([0xCB, 0x97], .res2A),
    ([0xCB, 0x98], .res3B), ([0xCB, 0x99], .res3C), ([0xCB, 0x9A], .res3D), ([0xCB, 0x9B], .res3E),
    ([0xCB, 0x9C], .res3H), ([0xCB, 0x9D], .res3L), ([0xCB, 0x9E], .res3IndHl), ([0xCB, 0x9F], .res3A)] = true := by decide +kernel

theorem test_decode_prefixed_Ax : decodes [
    ([0xCB, 0xA0], .res4B), ([0xCB, 0xA1], .res4C), ([0xCB, 0xA2], .res4D), ([0xCB, 0xA3], .res4E),
    ([0xCB, 0xA4], .res4H), ([0xCB, 0xA5], .res4L), ([0xCB, 0xA6], .res4IndHl), ([0xCB, 0xA7], .res4A),
    ([0xCB, 0xA8], .res5B), ([0xCB, 0xA9], .res5C), ([0xCB, 0xAA], .res5D), ([0xCB, 0xAB], .res5E),
    ([0xCB, 0xAC], .res5H), ([0xCB, 0xAD], .res5L), ([0xCB, 0xAE], .res5IndHl), ([0xCB, 0xAF], .res5A)] = true := by decide +kernel

theorem test_decode_prefixed_Bx : decodes [
    ([0xCB, 0xB0], .res6B), ([0xCB, 0xB1], .res6C), ([0xCB, 0xB2], .res6D), ([0xCB, 0xB3], .res6E),
    ([0xCB, 0xB4], .res6H), ([0xCB, 0xB5], .res6L), ([0xCB, 0xB6], .res6IndHl), ([0xCB, 0xB7], .res6A),
    ([0xCB, 0xB8], .res7B), ([0xCB, 0xB9], .res7C), ([0xCB, 0xBA], .res7D), ([0xCB, 0xBB], .res7E),
    ([0xCB, 0xBC], .res7H), ([0xCB, 0xBD], .res7L), ([0xCB, 0xBE], .res7IndHl), ([0xCB, 0xBF], .res7A)] = true := by decide +kernel

theorem test_decode_prefixed_Cx : decodes [
    ([0xCB, 0xC0], .set0B), ([0xCB, 0xC1], .set0C), ([0xCB, 0xC2], .set0D), ([0xCB, 0xC3], .set0E),
    ([0xCB, 0xC4], .set0H), ([0xCB, 0xC5], .set0L), ([0xCB, 0xC6], .set0IndHl), ([0xCB, 0xC7], .set0A),
    ([0xCB, 0xC8], .set1B), ([0xCB, 0xC9], .set1C), ([0xCB, 0xCA], .set1D), ([0xCB, 0xCB], .set1E),
    ([0xCB, 0xCC], .set1H), ([0xCB, 0xCD], .set1L), ([0xCB, 0xCE], .set1IndHl), ([0xCB, 0xCF], .set1A)] = true := by decide +kernel

theorem test_decode_prefixed_Dx : decodes [
    ([0xCB, 0xD0], .set2B), ([0xCB, 0xD1], .set2C), ([0xCB, 0xD2], .set2D), ([0xCB, 0xD3], .set2E),
    ([0xCB, 0xD4], .set2H), ([0xCB, 0xD5], .set2L), ([0xCB, 0xD6], .set2IndHl), ([0xCB, 0xD7], .set2A),
    ([0xCB, 0xD8], .set3B), ([0xCB, 0xD9], .set3C), ([0xCB, 0xDA], .set3D), ([0xCB, 0xDB], .set3E),
    ([0xCB, 0xDC], .set3H), ([0xCB, 0xDD], .set3L), ([0xCB, 0xDE], .set3IndHl), ([0xCB, 0xDF], .set3A)] = true := by decide +kernel

theorem test_decode_prefixed_Ex : decodes [
    ([0xCB, 0xE0], .set4B), ([0xCB, 0xE1], .set4C), ([0xCB, 0xE2], .set4D), ([0xCB, 0xE3], .set4E),
    ([0xCB, 0xE4], .set4H), ([0xCB, 0xE5], .set4L), ([0xCB, 0xE6], .set4IndHl), ([0xCB, 0xE7], .set4A),
    ([0xCB, 0xE8], .set5B), ([0xCB, 0xE9], .set5C), ([0xCB, 0xEA], .set5D), ([0xCB, 0xEB], .set5E),
    ([0xCB, 0xEC], .set5H), ([0xCB, 0xED], .set5L), ([0xCB, 0xEE], .set5IndHl), ([0xCB, 0xEF], .set5A)] = true := by decide +kernel

theorem test_decode_prefixed_Fx : decodes [
    ([0xCB, 0xF0], .set6B), ([0xCB, 0xF1], .set6C), ([0xCB, 0xF2], .set6D), ([0xCB, 0xF3], .set6E),
    ([0xCB, 0xF4], .set6H), ([0xCB, 0xF5], .set6L), ([0xCB, 0xF6], .set6IndHl), ([0xCB, 0xF7], .set6A),
    ([0xCB, 0xF8], .set7B), ([0xCB, 0xF9], .set7C), ([0xCB, 0xFA], .set7D), ([0xCB, 0xFB], .set7E),
    ([0xCB, 0xFC], .set7H), ([0xCB, 0xFD], .set7L), ([0xCB, 0xFE], .set7IndHl), ([0xCB, 0xFF], .set7A)] = true := by decide +kernel

/-- The prefix row, read as a row of the primary map (log entry 10). -/
theorem test_decode_prefix_row : decodeTableWord 8 0xCB = some (.prefixCb 0) := by decide

/-- A prefixed row as the table numbers it, the prefix in bits 15 to 8 (log entry 10). -/
theorem test_decode_table_word : decodeTableWord 16 0xCB37 = some .swapA ∧ decodeTableWord 24 0x1234C3 = some (.jpA16 0x1234) := by
  decide

theorem test_decode_truncated : decode [0xC3, 0x50] = .error (.truncated 0xC3 3) ∧ decode [] = .error .noBytes := by decide

/-- The word of a table row runs as the first instruction after reset. -/
theorem test_withFetchWord_runs : nextWith (step (State.reset.withFetchWord 8 0x3C)) (fun t => decide (t.regs.a = 1)) = true ∧
    nextWith (step (State.reset.withFetchWord 16 0xCBC7)) (fun t => decide (t.regs.a = 1)) = true := by decide +kernel

/-! ## The vectors of 95_test_vectors.md, at most two per instruction, one tick each -/

/-- L8-1 (rule R110). -/
theorem test_L8_1_ld_b_a :
    holds (ran [0x47] [] { base with regs := { a := 0x5A } })
      0xC001 0xFFFE { a := 0x5A, b := 0x5A } 0 [] = true := by decide +kernel

/-- L8-2 (rule R111). -/
theorem test_L8_2_ld_c_hl :
    holds (ran [0x4E] [(0xC100, 0x99)] { base with regs := { h := 0xC1, l := 0x00 } })
      0xC001 0xFFFE { h := 0xC1, c := 0x99 } 1 [] = true := by decide +kernel

/-- L8-3 (rule R112). -/
theorem test_L8_3_ld_hl_d :
    holds (ran [0x72] [] { base with regs := { h := 0xC1, l := 0x00, d := 0x42 } })
      0xC001 0xFFFE { h := 0xC1, d := 0x42 } 1 [(0xC100, 0x42)] = true := by decide +kernel

/-- L8-4 (rule R113). -/
theorem test_L8_4_ld_e_0x7f :
    holds (ran [0x1E, 0x7F] [] base)
      0xC002 0xFFFE { e := 0x7F } 1 [] = true := by decide +kernel

/-- L8-5 (rule R114). -/
theorem test_L8_5_ld_hl_0x33 :
    holds (ran [0x36, 0x33] [] { base with regs := { h := 0xFF, l := 0x80 } })
      0xC002 0xFFFE { h := 0xFF, l := 0x80 } 2 [(0xFF80, 0x33)] = true := by decide +kernel

/-- L8-6 (rule R115). -/
theorem test_L8_6_ld_a_de :
    holds (ran [0x1A] [(0xC200, 0x12)] { base with regs := { d := 0xC2, e := 0x00 } })
      0xC001 0xFFFE { d := 0xC2, a := 0x12 } 1 [] = true := by decide +kernel

/-- L8-7 (rule R116). -/
theorem test_L8_7_ld_bc_a :
    holds (ran [0x02] [] { base with regs := { b := 0xC2, c := 0x01, a := 0x77 } })
      0xC001 0xFFFE { b := 0xC2, c := 0x01, a := 0x77 } 1 [(0xC201, 0x77)] = true := by decide +kernel

/-- L8-8 (rule R117). -/
theorem test_L8_8_ld_a_0xc300 :
    holds (ran [0xFA, 0x00, 0xC3] [(0xC300, 0xAB)] base)
      0xC003 0xFFFE { a := 0xAB } 3 [] = true := by decide +kernel

/-- L8-9 (rule R118). -/
theorem test_L8_9_ld_0xff81_a :
    holds (ran [0xEA, 0x81, 0xFF] [] { base with regs := { a := 0xCD } })
      0xC003 0xFFFE { a := 0xCD } 3 [(0xFF81, 0xCD)] = true := by decide +kernel

/-- L8-10 (rule R119). -/
theorem test_L8_10_ldh_a_0x0f :
    holds (ran [0xF0, 0x0F] [] { base with ifReg := 0x05 })
      0xC002 0xFFFE { a := 0xE5 } 2 [] = true := by decide +kernel

/-- L8-11 (rule R120). -/
theorem test_L8_11_ldh_0x85_a :
    holds (ran [0xE0, 0x85] [] { base with regs := { a := 0x11 } })
      0xC002 0xFFFE { a := 0x11 } 2 [(0xFF85, 0x11)] = true := by decide +kernel

/-- L8-12 (rule R121). -/
theorem test_L8_12_ld_a_c :
    holds (ran [0xF2] [] { base with regs := { c := 0x07 }, timer := { tac := 0x05 } })
      0xC001 0xFFFE { c := 0x07, a := 0xFD } 1 [] = true := by decide +kernel

/-- L8-13 (rule R122). -/
theorem test_L8_13_ld_c_a :
    holds (ran [0xE2] [] { base with regs := { c := 0x86, a := 0x22 } })
      0xC001 0xFFFE { c := 0x86, a := 0x22 } 1 [(0xFF86, 0x22)] = true := by decide +kernel

/-- L8-14 (rule R123). -/
theorem test_L8_14_ld_hl_a :
    holds (ran [0x22] [] { base with regs := { h := 0xC0, l := 0xFF, a := 0x01 } })
      0xC001 0xFFFE { h := 0xC1, a := 0x01 } 1 [(0xC0FF, 0x01)] = true := by decide +kernel

/-- L8-15 (rule R124). -/
theorem test_L8_15_ld_hl_a :
    holds (ran [0x32] [] { base with regs := { h := 0xC1, l := 0x00, a := 0x02 } })
      0xC001 0xFFFE { h := 0xC0, l := 0xFF, a := 0x02 } 1 [(0xC100, 0x02)] = true := by decide +kernel

/-- L8-16 (rule R125). -/
theorem test_L8_16_ld_a_hl_at_hl_0xffff :
    holds (ran [0x2A] [] { base with ie := 0x1F, regs := { h := 0xFF, l := 0xFF } })
      0xC001 0xFFFE { a := 0x1F } 1 [] = true := by decide +kernel

/-- L8-17 (rule R126). -/
theorem test_L8_17_ld_a_hl_at_hl_0x0000 :
    holds (ran [0x3A] [(0x0000, 0x5C)] { base with regs := { h := 0x00, l := 0x00 } })
      0xC001 0xFFFE { h := 0xFF, l := 0xFF, a := 0x5C } 1 [] = true := by decide +kernel

/-- L8-18 (rule R67). -/
theorem test_L8_18_ld_a_0xfea0_unmapped :
    holds (ran [0xFA, 0xA0, 0xFE] [] base)
      0xC003 0xFFFE { a := 0xFF } 3 [] = true := by decide +kernel

/-- L16-1 (rule R141). -/
theorem test_L16_1_ld_bc_0x1234 :
    holds (ran [0x01, 0x34, 0x12] [] base)
      0xC003 0xFFFE { b := 0x12, c := 0x34 } 2 [] = true := by decide +kernel

/-- L16-2 (rule R141). -/
theorem test_L16_2_ld_sp_0xdff0 :
    holds (ran [0x31, 0xF0, 0xDF] [] base)
      0xC003 0xDFF0 {} 2 [] = true := by decide +kernel

/-- L16-3 (rule R142). -/
theorem test_L16_3_ld_0xc010_sp :
    holds (ran [0x08, 0x10, 0xC0] [] { base with sp := 0xBEEF })
      0xC003 0xBEEF {} 4 [(0xC010, 0xEF), (0xC011, 0xBE)] = true := by decide +kernel

/-- L16-4 (rule R143). -/
theorem test_L16_4_ld_sp_hl :
    holds (ran [0xF9] [] { base with regs := { h := 0xC8, l := 0x00 } })
      0xC001 0xC800 { h := 0xC8 } 1 [] = true := by decide +kernel

/-- L16-5 (rule R144). -/
theorem test_L16_5_push_de :
    holds (ran [0xD5] [] { base with regs := { d := 0xAB, e := 0xCD } })
      0xC001 0xFFFC { d := 0xAB, e := 0xCD } 3 [(0xFFFC, 0xCD), (0xFFFD, 0xAB)] = true := by decide +kernel

/-- L16-6 (rule R144). -/
theorem test_L16_6_push_af :
    holds (ran [0xF5] [] { base with regs := { a := 0x12, f := 0xB0 } })
      0xC001 0xFFFC { a := 0x12, f := 0xB0 } 3 [(0xFFFC, 0xB0), (0xFFFD, 0x12)] = true := by decide +kernel

/-- L16-7 (rule R145). -/
theorem test_L16_7_pop_hl :
    holds (ran [0xE1] [(0xFFF0, 0x78), (0xFFF1, 0x56)] { base with sp := 0xFFF0 })
      0xC001 0xFFF2 { h := 0x56, l := 0x78 } 2 [] = true := by decide +kernel

/-- L16-8 (rule R146). -/
theorem test_L16_8_pop_af_low_nibble_masked :
    holds (ran [0xF1] [(0xFFF0, 0xFF), (0xFFF1, 0x3C)] { base with sp := 0xFFF0 })
      0xC001 0xFFF2 { a := 0x3C, f := 0xF0 } 2 [] = true := by decide +kernel

/-- L16-9 (rule R144). -/
theorem test_L16_9_push_bc_at_sp_0xc002 :
    holds (ran [0xC5] [] { base with sp := 0xC002, regs := { b := 0x01, c := 0x02 } })
      0xC001 0xC000 { b := 0x01, c := 0x02 } 3 [(0xC000, 0x02), (0xC001, 0x01)] = true := by decide +kernel

/-- L16-10 (rule R144). -/
theorem test_L16_10_push_bc_at_sp_0x0000_wraps_high_byte_to_ie :
    let t := ran [0xC5] [] { base with sp := 0x0000, regs := { b := 0x1F, c := 0x34 } }
    holds t 0xC001 0xFFFE { b := 0x1F, c := 0x34 } 3 [(0xFFFE, 0x34)] = true ∧ t.ie = 0x1F := by decide +kernel

/-- L16-11 (rule R145). -/
theorem test_L16_11_pop_de_at_sp_0xffff_low_from_ie_high_from_rom_0000 :
    holds (ran [0xD1] [(0x0000, 0xA7)] { base with sp := 0xFFFF, ie := 0x05 })
      0xC001 0x0001 { d := 0xA7, e := 0x05 } 2 [] = true := by decide +kernel

/-- A8-1 (rule R162). -/
theorem test_A8_1_add_a_b :
    holds (ran [0x80] [] { base with regs := { a := 0x3A, b := 0xC6 } })
      0xC001 0xFFFE { b := 0xC6, f := 0xB0 } 0 [] = true := by decide +kernel

/-- A8-2 (rule R162). -/
theorem test_A8_2_add_a_b :
    holds (ran [0x80] [] { base with regs := { a := 0x0F, b := 0x01 } })
      0xC001 0xFFFE { a := 0x10, b := 0x01, f := 0x20 } 0 [] = true := by decide +kernel

/-- A8-3 (rule R162). -/
theorem test_A8_3_add_a_a :
    holds (ran [0x87] [] { base with regs := { a := 0x80 } })
      0xC001 0xFFFE { f := 0x90 } 0 [] = true := by decide +kernel

/-- A8-4 (rule R163). -/
theorem test_A8_4_adc_a_0x0f :
    holds (ran [0xCE, 0x0F] [] { base with regs := { a := 0xE1, f := 0x10 } })
      0xC002 0xFFFE { a := 0xF1, f := 0x20 } 1 [] = true := by decide +kernel

/-- A8-5 (rule R163). -/
theorem test_A8_5_adc_a_0xff :
    holds (ran [0xCE, 0xFF] [] { base with regs := { a := 0x00, f := 0x10 } })
      0xC002 0xFFFE { f := 0xB0 } 1 [] = true := by decide +kernel

/-- A8-6 (rule R164). -/
theorem test_A8_6_sub_0x01 :
    holds (ran [0xD6, 0x01] [] { base with regs := { a := 0x00 } })
      0xC002 0xFFFE { a := 0xFF, f := 0x70 } 1 [] = true := by decide +kernel

/-- A8-7 (rule R164). -/
theorem test_A8_7_sub_a :
    holds (ran [0x97] [] { base with regs := { a := 0x42 } })
      0xC001 0xFFFE { f := 0xC0 } 0 [] = true := by decide +kernel

/-- A8-8 (rule R164). -/
theorem test_A8_8_sub_0x0f :
    holds (ran [0xD6, 0x0F] [] { base with regs := { a := 0x10 } })
      0xC002 0xFFFE { a := 0x01, f := 0x60 } 1 [] = true := by decide +kernel

/-- A8-9 (rule R165). -/
theorem test_A8_9_sbc_a_0x00 :
    holds (ran [0xDE, 0x00] [] { base with regs := { a := 0x00, f := 0x10 } })
      0xC002 0xFFFE { a := 0xFF, f := 0x70 } 1 [] = true := by decide +kernel

/-- A8-10 (rule R165). -/
theorem test_A8_10_sbc_a_0xff :
    holds (ran [0xDE, 0xFF] [] { base with regs := { a := 0xFF, f := 0x10 } })
      0xC002 0xFFFE { a := 0xFF, f := 0x70 } 1 [] = true := by decide +kernel

/-- A8-11 (rule R166). -/
theorem test_A8_11_and_0xf0 :
    holds (ran [0xE6, 0xF0] [] { base with regs := { a := 0x0F } })
      0xC002 0xFFFE { f := 0xA0 } 1 [] = true := by decide +kernel

/-- A8-12 (rule R167). -/
theorem test_A8_12_xor_a :
    holds (ran [0xAF] [] { base with regs := { a := 0x5A, f := 0xF0 } })
      0xC001 0xFFFE { f := 0x80 } 0 [] = true := by decide +kernel

/-- A8-13 (rule R168). -/
theorem test_A8_13_or_hl :
    holds (ran [0xB6] [(0xC100, 0x00)] { base with regs := { a := 0x00, h := 0xC1, l := 0x00 } })
      0xC001 0xFFFE { h := 0xC1, f := 0x80 } 1 [] = true := by decide +kernel

/-- A8-14 (rule R169). -/
theorem test_A8_14_cp_0x2f :
    holds (ran [0xFE, 0x2F] [] { base with regs := { a := 0x3C } })
      0xC002 0xFFFE { a := 0x3C, f := 0x60 } 1 [] = true := by decide +kernel

/-- A8-15 (rule R169). -/
theorem test_A8_15_cp_0x3c :
    holds (ran [0xFE, 0x3C] [] { base with regs := { a := 0x3C } })
      0xC002 0xFFFE { a := 0x3C, f := 0xC0 } 1 [] = true := by decide +kernel

/-- A8-17 (rule R170). -/
theorem test_A8_17_inc_b :
    holds (ran [0x04] [] { base with regs := { b := 0xFF, f := 0x10 } })
      0xC001 0xFFFE { f := 0xB0 } 0 [] = true := by decide +kernel

/-- A8-18 (rule R170). -/
theorem test_A8_18_inc_b :
    holds (ran [0x04] [] { base with regs := { b := 0x0F } })
      0xC001 0xFFFE { b := 0x10, f := 0x20 } 0 [] = true := by decide +kernel

/-- A8-19 (rule R171). -/
theorem test_A8_19_inc_hl :
    holds (ran [0x34] [(0xC100, 0x7F)] { base with regs := { h := 0xC1, l := 0x00 } })
      0xC001 0xFFFE { h := 0xC1, f := 0x20 } 2 [(0xC100, 0x80)] = true := by decide +kernel

/-- A8-20 (rule R172). -/
theorem test_A8_20_dec_c :
    holds (ran [0x0D] [] { base with regs := { c := 0x01 } })
      0xC001 0xFFFE { f := 0xC0 } 0 [] = true := by decide +kernel

/-- A8-21 (rule R172). -/
theorem test_A8_21_dec_c :
    holds (ran [0x0D] [] { base with regs := { c := 0x00, f := 0x10 } })
      0xC001 0xFFFE { c := 0xFF, f := 0x70 } 0 [] = true := by decide +kernel

/-- A8-23 (rule R173). -/
theorem test_A8_23_dec_hl :
    holds (ran [0x35] [(0xC100, 0x00)] { base with regs := { h := 0xC1, l := 0x00 } })
      0xC001 0xFFFE { h := 0xC1, f := 0x60 } 2 [(0xC100, 0xFF)] = true := by decide +kernel

/-- A8-24 (rule R175). -/
theorem test_A8_24_cpl :
    holds (ran [0x2F] [] { base with regs := { a := 0x35, f := 0x90 } })
      0xC001 0xFFFE { a := 0xCA, f := 0xF0 } 0 [] = true := by decide +kernel

/-- A8-25 (rule R176). -/
theorem test_A8_25_scf :
    holds (ran [0x37] [] { base with regs := { f := 0xE0 } })
      0xC001 0xFFFE { f := 0x90 } 0 [] = true := by decide +kernel

/-- A8-26 (rule R177). -/
theorem test_A8_26_ccf :
    holds (ran [0x3F] [] { base with regs := { f := 0x70 } })
      0xC001 0xFFFE {} 0 [] = true := by decide +kernel

/-- A8-27 (rule R177). -/
theorem test_A8_27_ccf :
    holds (ran [0x3F] [] { base with regs := { f := 0x80 } })
      0xC001 0xFFFE { f := 0x90 } 0 [] = true := by decide +kernel

/-- DAA-4 (rule R174). -/
theorem test_DAA_4_daa :
    holds (ran [0x27] [] { base with regs := { a := 0xA0, f := 0x00 } })
      0xC001 0xFFFE { f := 0x90 } 0 [] = true := by decide +kernel

/-- DAA-12 (rule R174). -/
theorem test_DAA_12_daa :
    holds (ran [0x27] [] { base with regs := { a := 0x9A, f := 0x70 } })
      0xC001 0xFFFE { a := 0x34, f := 0x50 } 0 [] = true := by decide +kernel

/-- A16-1 (rule R190). -/
theorem test_A16_1_add_hl_bc :
    holds (ran [0x09] [] { base with regs := { h := 0x8A, l := 0x23, b := 0x06, c := 0x05 } })
      0xC001 0xFFFE { h := 0x90, l := 0x28, b := 0x06, c := 0x05, f := 0x20 } 1 [] = true := by decide +kernel

/-- A16-2 (rule R190). -/
theorem test_A16_2_add_hl_de :
    holds (ran [0x19] [] { base with regs := { h := 0x0F, l := 0xFF, d := 0x00, e := 0x01, f := 0x80 } })
      0xC001 0xFFFE { h := 0x10, e := 0x01, f := 0xA0 } 1 [] = true := by decide +kernel

/-- A16-3 (rule R190). -/
theorem test_A16_3_add_hl_hl :
    holds (ran [0x29] [] { base with regs := { h := 0x80, l := 0x00 } })
      0xC001 0xFFFE { f := 0x10 } 1 [] = true := by decide +kernel

/-- A16-4 (rule R190). -/
theorem test_A16_4_add_hl_sp :
    holds (ran [0x39] [] { base with sp := 0x0001, regs := { h := 0xFF, l := 0xFF } })
      0xC001 0x0001 { f := 0x30 } 1 [] = true := by decide +kernel

/-- A16-5 (rule R191). -/
theorem test_A16_5_inc_de :
    holds (ran [0x13] [] { base with regs := { d := 0xFF, e := 0xFF } })
      0xC001 0xFFFE {} 1 [] = true := by decide +kernel

/-- A16-6 (rule R192). -/
theorem test_A16_6_dec_bc :
    holds (ran [0x0B] [] { base with regs := { b := 0x00, c := 0x00, f := 0xF0 } })
      0xC001 0xFFFE { b := 0xFF, c := 0xFF, f := 0xF0 } 1 [] = true := by decide +kernel

/-- A16-7 (rule R194). -/
theorem test_A16_7_add_sp_8 :
    holds (ran [0xE8, 0x08] [] { base with sp := 0xFFF8 })
      0xC002 0x0000 { f := 0x30 } 3 [] = true := by decide +kernel

/-- A16-8 (rule R194). -/
theorem test_A16_8_add_sp_1 :
    holds (ran [0xE8, 0xFF] [] { base with sp := 0x0000 })
      0xC002 0xFFFF {} 3 [] = true := by decide +kernel

/-- A16-11 (rule R195). -/
theorem test_A16_11_ld_hl_sp_2 :
    holds (ran [0xF8, 0x02] [] { base with sp := 0xFFFE })
      0xC002 0xFFFE { f := 0x30 } 2 [] = true := by decide +kernel

/-- A16-12 (rule R195). -/
theorem test_A16_12_ld_hl_sp_128 :
    holds (ran [0xF8, 0x80] [] { base with sp := 0x1000 })
      0xC002 0x1000 { h := 0x0F, l := 0x80 } 2 [] = true := by decide +kernel

/-- RS-1 (rule R200). -/
theorem test_RS_1_rlca :
    holds (ran [0x07] [] { base with regs := { a := 0x85 } })
      0xC001 0xFFFE { a := 0x0B, f := 0x10 } 0 [] = true := by decide +kernel

/-- RS-2 (rule R200). -/
theorem test_RS_2_rlca_result_0_z_stays_0 :
    holds (ran [0x07] [] { base with regs := { a := 0x00, f := 0x80 } })
      0xC001 0xFFFE {} 0 [] = true := by decide +kernel

/-- RS-3 (rule R201). -/
theorem test_RS_3_rrca :
    holds (ran [0x0F] [] { base with regs := { a := 0x01 } })
      0xC001 0xFFFE { a := 0x80, f := 0x10 } 0 [] = true := by decide +kernel

/-- RS-4 (rule R202). -/
theorem test_RS_4_rla :
    holds (ran [0x17] [] { base with regs := { a := 0x80 } })
      0xC001 0xFFFE { f := 0x10 } 0 [] = true := by decide +kernel

/-- RS-5 (rule R203). -/
theorem test_RS_5_rra :
    holds (ran [0x1F] [] { base with regs := { a := 0x01, f := 0x10 } })
      0xC001 0xFFFE { a := 0x80, f := 0x10 } 0 [] = true := by decide +kernel

/-- RS-6 (rule R205). -/
theorem test_RS_6_rlc_b :
    holds (ran [0xCB, 0x00] [] { base with regs := { b := 0x80 } })
      0xC002 0xFFFE { b := 0x01, f := 0x10 } 1 [] = true := by decide +kernel

/-- RS-7 (rule R205). -/
theorem test_RS_7_rlc_b_zero :
    holds (ran [0xCB, 0x00] [] { base with regs := { b := 0x00 } })
      0xC002 0xFFFE { f := 0x80 } 1 [] = true := by decide +kernel

/-- RS-8 (rule R206). -/
theorem test_RS_8_rrc_hl :
    holds (ran [0xCB, 0x0E] [(0xC100, 0x01)] { base with regs := { h := 0xC1, l := 0x00 } })
      0xC002 0xFFFE { h := 0xC1, f := 0x10 } 3 [(0xC100, 0x80)] = true := by decide +kernel

/-- RS-9 (rule R207). -/
theorem test_RS_9_rl_c :
    holds (ran [0xCB, 0x11] [] { base with regs := { c := 0x80 } })
      0xC002 0xFFFE { f := 0x90 } 1 [] = true := by decide +kernel

/-- RS-10 (rule R208). -/
theorem test_RS_10_rr_d :
    holds (ran [0xCB, 0x1A] [] { base with regs := { d := 0x01, f := 0x10 } })
      0xC002 0xFFFE { d := 0x80, f := 0x10 } 1 [] = true := by decide +kernel

/-- RS-11 (rule R209). -/
theorem test_RS_11_sla_e :
    holds (ran [0xCB, 0x23] [] { base with regs := { e := 0xC1 } })
      0xC002 0xFFFE { e := 0x82, f := 0x10 } 1 [] = true := by decide +kernel

/-- RS-12 (rule R210). -/
theorem test_RS_12_sra_h :
    holds (ran [0xCB, 0x2C] [] { base with regs := { h := 0x81 } })
      0xC002 0xFFFE { h := 0xC0, f := 0x10 } 1 [] = true := by decide +kernel

/-- RS-13 (rule R211). -/
theorem test_RS_13_swap_a :
    holds (ran [0xCB, 0x37] [] { base with regs := { a := 0xF0, f := 0x10 } })
      0xC002 0xFFFE { a := 0x0F } 1 [] = true := by decide +kernel

/-- RS-14 (rule R211). -/
theorem test_RS_14_swap_l_zero :
    holds (ran [0xCB, 0x35] [] { base with regs := { l := 0x00 } })
      0xC002 0xFFFE { f := 0x80 } 1 [] = true := by decide +kernel

/-- RS-15 (rule R212). -/
theorem test_RS_15_srl_a :
    holds (ran [0xCB, 0x3F] [] { base with regs := { a := 0x01 } })
      0xC002 0xFFFE { f := 0x90 } 1 [] = true := by decide +kernel

/-- RS-16 (rule R213). -/
theorem test_RS_16_bit_7_h :
    holds (ran [0xCB, 0x7C] [] { base with regs := { h := 0x7F, f := 0x10 } })
      0xC002 0xFFFE { h := 0x7F, f := 0xB0 } 1 [] = true := by decide +kernel

/-- RS-17 (rule R213). -/
theorem test_RS_17_bit_0_hl :
    holds (ran [0xCB, 0x46] [(0xC100, 0x01)] { base with regs := { h := 0xC1, l := 0x00 } })
      0xC002 0xFFFE { h := 0xC1, f := 0x20 } 2 [] = true := by decide +kernel

/-- RS-18 (rule R214). -/
theorem test_RS_18_res_3_hl :
    holds (ran [0xCB, 0x9E] [(0xC100, 0xFF)] { base with regs := { h := 0xC1, l := 0x00 } })
      0xC002 0xFFFE { h := 0xC1 } 3 [(0xC100, 0xF7)] = true := by decide +kernel

/-- RS-19 (rule R215). -/
theorem test_RS_19_set_0_a :
    holds (ran [0xCB, 0xC7] [] { base with regs := { a := 0x00, f := 0xF0 } })
      0xC002 0xFFFE { a := 0x01, f := 0xF0 } 1 [] = true := by decide +kernel

/-- RS-20 (rule R215). -/
theorem test_RS_20_set_1_e_cb_cb :
    holds (ran [0xCB, 0xCB] [] { base with regs := { e := 0x00 } })
      0xC002 0xFFFE { e := 0x02 } 1 [] = true := by decide +kernel

/-- CT-1 (rule R230). -/
theorem test_CT_1_jp_0x0150 : holds (ran [0xC3, 0x50, 0x01] [] base) 0x0150 0xFFFE {} 3 [] = true := by decide +kernel

/-- CT-2 (rule R231). -/
theorem test_CT_2_jp_nz_0x1234 :
    holds (ran [0xC2, 0x34, 0x12] [] { base with regs := { f := 0x80 } })
      0xC003 0xFFFE { f := 0x80 } 2 [] = true := by decide +kernel

/-- CT-3 (rule R231). -/
theorem test_CT_3_jp_c_0x1234 :
    holds (ran [0xDA, 0x34, 0x12] [] { base with regs := { f := 0x10 } })
      0x1234 0xFFFE { f := 0x10 } 3 [] = true := by decide +kernel

/-- CT-4 (rule R232). -/
theorem test_CT_4_jp_hl :
    holds (ran [0xE9] [] { base with regs := { h := 0xC1, l := 0x23 } })
      0xC123 0xFFFE { h := 0xC1, l := 0x23 } 0 [] = true := by decide +kernel

/-- CT-5 (rule R233). -/
theorem test_CT_5_jr_5 : holds (ran [0x18, 0x05] [] base) 0xC007 0xFFFE {} 2 [] = true := by decide +kernel

/-- CT-6 (rule R233). -/
theorem test_CT_6_jr_128 : holds (ran [0x18, 0x80] [] base) 0xBF82 0xFFFE {} 2 [] = true := by decide +kernel

/-- CT-7 (rule R234). -/
theorem test_CT_7_jr_nz_5 :
    holds (ran [0x20, 0xFB] [] { base with pc := 0xC005 })
      0xC002 0xFFFE {} 2 [] = true := by decide +kernel

/-- CT-8 (rule R234). -/
theorem test_CT_8_jr_z_5 :
    holds (ran [0x28, 0xFB] [] { base with pc := 0xC005 })
      0xC007 0xFFFE {} 1 [] = true := by decide +kernel

/-- CT-9 (rule R235). -/
theorem test_CT_9_call_0x0200 :
    holds (ran [0xCD, 0x00, 0x02] [] base)
      0x0200 0xFFFC {} 5 [(0xFFFC, 0x03), (0xFFFD, 0xC0)] = true := by decide +kernel

/-- CT-10 (rule R236). -/
theorem test_CT_10_call_nc_0x0200 :
    holds (ran [0xD4, 0x00, 0x02] [] { base with regs := { f := 0x10 } })
      0xC003 0xFFFE { f := 0x10 } 2 [] = true := by decide +kernel

/-- CT-11 (rule R236). -/
theorem test_CT_11_call_z_0xc200 :
    holds (ran [0xCC, 0x00, 0xC2] [] { base with regs := { f := 0x80 } })
      0xC200 0xFFFC { f := 0x80 } 5 [(0xFFFC, 0x03), (0xFFFD, 0xC0)] = true := by decide +kernel

/-- CT-12 (rule R237). -/
theorem test_CT_12_ret :
    holds (ran [0xC9] [(0xFFFC, 0x03), (0xFFFD, 0xC0)] { base with sp := 0xFFFC })
      0xC003 0xFFFE {} 3 [] = true := by decide +kernel

/-- CT-13 (rule R238). -/
theorem test_CT_13_ret_z :
    holds (ran [0xC8] [(0xFFFC, 0x03), (0xFFFD, 0xC0)] { base with sp := 0xFFFC, regs := { f := 0x80 } })
      0xC003 0xFFFE { f := 0x80 } 4 [] = true := by decide +kernel

/-- CT-14 (rule R238). -/
theorem test_CT_14_ret_nc :
    holds (ran [0xD0] [(0xFFFC, 0x03), (0xFFFD, 0xC0)] { base with sp := 0xFFFC, regs := { f := 0x10 } })
      0xC001 0xFFFC { f := 0x10 } 1 [] = true := by decide +kernel

/-- CT-15 (rule R242). -/
theorem test_CT_15_reti :
    let t := ran [0xD9] [(0xFFFC, 0x03), (0xFFFD, 0xC0)] { base with sp := 0xFFFC }
    holds t 0xC003 0xFFFE {} 3 [] = true ∧ t.eiPending = true := by decide +kernel

/-- CT-16 (rule R239). -/
theorem test_CT_16_rst_28h :
    holds (ran [0xEF] [] base)
      0x0028 0xFFFC {} 3 [(0xFFFC, 0x01), (0xFFFD, 0xC0)] = true := by decide +kernel

/-- CT-17 (rule R239). -/
theorem test_CT_17_rst_38h :
    holds (ran [0xFF] [] base)
      0x0038 0xFFFC {} 3 [(0xFFFC, 0x01), (0xFFFD, 0xC0)] = true := by decide +kernel

/-- SY-1 (rule R250). -/
theorem test_SY_1_nop : holds (ran [0x00] [] base) 0xC001 0xFFFE {} 0 [] = true := by decide +kernel

/-- SY-2 (rule R255). -/
theorem test_SY_2_di :
    let t := ran [0xF3] [] { base with ime := true, eiPending := true }
    holds t 0xC001 0xFFFE {} 0 [] = true ∧ t.ime = false ∧ t.eiPending = false := by decide +kernel

/-- SY-3 (rule R256). -/
theorem test_SY_3_ei :
    let t := ran [0xFB] [] base
    holds t 0xC001 0xFFFE {} 0 [] = true ∧ t.eiPending = true := by decide +kernel

/-- SY-4 (rule R253). -/
theorem test_SY_4_stop_default_refuse :
    let t := ran [0x10, 0x00] [] base
    holds t 0xC002 0xFFFE {} 0 [] = true ∧ t.stopped = true ∧ t.outcome = .refused (.stop 0xC000) := by decide +kernel

/-- SY-5 (rule R257). -/
theorem test_SY_5_undefined_0xdb :
    let t := ran [0xDB] [] base
    holds t 0xC001 0xFFFE {} 0 [] = true ∧ t.outcome = .faulted (.undefinedOpcode 0xDB 0xC000) := by decide +kernel

/-- SY-6 (rule R257). -/
theorem test_SY_6_undefined_0xfd :
    let t := ran [0xFD] [] base
    holds t 0xC001 0xFFFE {} 0 [] = true ∧ t.outcome = .faulted (.undefinedOpcode 0xFD 0xC000) := by decide +kernel

/-- SY-7 (rule R254). -/
theorem test_SY_7_cb_37_swap_a :
    holds (ran [0xCB, 0x37] [] { base with regs := { a := 0xF0 } })
      0xC002 0xFFFE { a := 0x0F } 1 [] = true := by decide +kernel

/-- ME-1 (rule R64). -/
theorem test_ME_1_ldh_a_0x07_tac_read_back :
    holds (ran [0xF0, 0x07] [] { base with timer := { tac := 0x05 } })
      0xC002 0xFFFE { a := 0xFD } 2 [] = true := by decide +kernel

/-- ME-3 (rule R68). -/
theorem test_ME_3_ldh_0x0f_a_if_write_mask :
    let t := ran [0xE0, 0x0F] [] { base with regs := { a := 0xFF } }
    holds t 0xC002 0xFFFE { a := 0xFF } 2 [] = true ∧ t.ifReg = 0x1F := by decide +kernel

/-! ## The source's worked examples (95_test_vectors.md section 1), one tick each -/

/-- Section 1.2: VBlank before Timer; the return address low byte at the lower address; NOP not run. -/
theorem test_interrupt_ordering :
    let t := ran [0x00] [] { base with ime := true, ifReg := 0x05, ie := 0x05 }
    holds t 0x0040 0xFFFC {} 4 [(0xFFFC, 0x00), (0xFFFD, 0xC0)] = true ∧ t.ime = false ∧ t.eiPending = false ∧
      t.ifReg = 0x04 := by decide +kernel

/-- Section 1.3: the latch set before an instruction is committed after it, in its dispatch tick. -/
theorem test_latch_commits_after_the_next_instruction :
    let t := ran [0xFA, 0x00, 0xC1] [] { base with eiPending := true }
    t.ime = true ∧ t.eiPending = false ∧ t.busy = 3 := by decide +kernel

/-- Section 1.3: EI then DI: IME never becomes true. -/
theorem test_di_after_ei_keeps_ime_false :
    let t := ran [0xF3] [] { base with eiPending := true }
    t.ime = false ∧ t.eiPending = false := by decide +kernel

/-- R321: a push of the high byte into IE at 0xFFFF happens before the pending bit is cleared; the source stays chosen. -/
theorem test_dispatch_push_into_ie :
    let t := ran [0x00] [] { base with ime := true, ifReg := 0x04, ie := 0x04, sp := 0x0000, pc := 0xD000 }
    holds t 0x0050 0xFFFE {} 4 [(0xFFFF, 0xD0), (0xFFFE, 0x00)] = true ∧ t.ifReg = 0 := by decide +kernel

/-- R251, R252: a halted CPU with nothing pending does not count. -/
theorem test_halted_tick_keeps_clock :
    nextWith (step { base with halted := true, busy := 1 }) (fun t =>
      t.halted && decide (t.busy = 1) && decide (t.clock = 0) && decide (t.timer.divCounter = 4)) = true := by decide +kernel

/-- R350, R351: TAC = 5, TIMA = 0xFF and four counts that pass a falling edge of bit 3. -/
theorem test_timer_overflow_in_a_tick :
    nextWith (step { base with busy := 2, timer := { divCounter := 0x000D, tima := 0xFF, tma := 0x42, tac := 5 } }) (fun t =>
      decide (t.timer.tima = 0x42) && decide (t.ifReg = 0x04) && decide (t.timer.divCounter = 0x0011)) = true := by
  decide +kernel

/-- R360, R361: the tick that ends line 143. -/
theorem test_vblank_entry :
    nextWith (step { base with busy := 2, ppu := { mode := .hBlank, modeClock := 203, line := 143 } }) (fun t =>
      t.frameBit && decide (t.ifReg = 0x01) && decide (t.ppu.mode = .vBlank) && decide (t.ppu.line = 144)) = true := by
  decide +kernel

/-- R67: under `UNMAPPED_POLICY = Fault` a load from 0xFEA0 ends the run, HL kept, the pc past the instruction. -/
theorem test_unmapped_read_faults :
    let t := ran [0x2A] [] { strict with regs := { h := 0xFE, l := 0xA0 } }
    holds t 0xC001 0xFFFE { h := 0xFE, l := 0xA0 } 0 [] = true ∧ t.outcome = .faulted (.invalidAccess 0xFEA0 .read) ∧
      t.clock = 0 := by decide +kernel

/-- R62: with the lock a store to VRAM in PixelTransfer is discarded. -/
theorem test_vram_lock_discards :
    let t := ran [0x77] [] { base with
      params := { vramOamLock := true }, ppu := { mode := .pixelTransfer },
      regs := { a := 0x55, h := 0x80, l := 0x00 } }
    t.ram.read 0x8000 = 0 ∧ t.outcome = .running := by decide +kernel

/-- R37, R65: a nonzero write to 0xFF50 disables the overlay. -/
theorem test_boot_disable :
    (ran [0xE0, 0x50] [] { base with bootDisabled := false, regs := { a := 1 } }).bootDisabled = true := by decide +kernel

/-! ## The hypotheses of the statements, met -/

theorem wit_EncodeThenDecode : (Instr.ldAIndA16 0xFFFF).wellFormed = true := by decide

theorem wit_DecodeThenEncode : decode [0xCB, 0x37, 0x99] = .ok (.swapA, [0x99]) := by decide

/-- Three bytes read; none read where the first address faults; one read and the second faults. -/
theorem wit_FetchReadsSuccessiveBytes :
    (∀ k < 3, busPeek true (poke [(0xC001, 0x50), (0xC002, 0x01), (0xC000, 0xC3)] base) (0xC000 + BitVec.ofNat 16 k) =
      [some 0xC3, some 0x50, some 0x01].getD k none) ∧
    busPeek true { strict with pc := 0xFEA0 } 0xFEA0 = none ∧
    (busPeek true { strict with pc := 0xFE9F } 0xFE9F = some 0 ∧ busPeek true { strict with pc := 0xFE9F } (0xFE9F + 1) = none) := by
  decide +kernel

/-- A two-byte instruction at a dispatch point with no interrupt to take, the latch set. -/
theorem wit_StepRunsTheDecodedInstruction :
    let s := poke [(0xC000, 0x3E), (0xC001, 0x77)] { base with eiPending := true }
    let w := wakeUp (hostGap s)
    s.outcome = .running ∧ atDispatchPoint w = true ∧ interruptSelect w = none ∧
      fetchBytes (lengthOf 0x3E) w = .ok [0x3E, 0x77] { w with pc := 0xC002 } ∧
      decode [0x3E, 0x77] = .ok (.ldAD8 0x77, []) := by decide +kernel

theorem wit_BusyTick : { base with busy := 3 }.outcome = .running ∧ { base with busy := 3 }.halted = false ∧
    { base with busy := 3 }.stopped = false ∧ 0 < { base with busy := 3 }.busy := by decide

/-- The halted statement's clauses: nothing enabled pending, and something with `busy` at 1. -/
theorem wit_Halted :
    let s := { base with halted := true, busy := 1, ifReg := 0x1F, ie := 0xE0 }
    let r := { s with ie := 0x10 }
    s.outcome = .running ∧ s.halted = true ∧ s.stopped = false ∧ (hostGap s).ie.toNat &&& (hostGap s).ifReg.toNat &&& 0x1F = 0 ∧
      (hostGap r).ie.toNat &&& (hostGap r).ifReg.toNat &&& 0x1F ≠ 0 ∧ r.busy = 1 := by decide

theorem wit_FaultEndsTheTick :
    nextWith (step (poke [(0xC000, 0xD3)] base)) (fun t => decide (t.outcome ≠ .running)) = true ∧
    { base with outcome := .faulted (.undefinedOpcode 0xD3 0xC000) }.outcome = .faulted (.undefinedOpcode 0xD3 0xC000) ∧
    { base with outcome := .refused (.stop 0xC000) }.outcome = .refused (.stop 0xC000) := by decide +kernel

/-- An interrupt tick that completes, one whose first push write faults, and one whose second does. -/
theorem wit_InterruptTick :
    let good := { base with ime := true, ifReg := 0x10, ie := 0x10 }
    let bad (sp : Word) := { strict with ime := true, ifReg := 0x01, ie := 0x01, sp := sp }
    (∀ s ∈ [good, bad 0xFF00, bad 0xFF01], s.outcome = .running ∧ atDispatchPoint (wakeUp (hostGap s)) = true) ∧
    interruptSelect (wakeUp (hostGap good)) = some .joypad ∧ interruptSelect (wakeUp (hostGap (bad 0xFF00))) = some .vBlank ∧
    okay (busWrite 0xFFFD 0xC0 { wakeUp (hostGap good) with sp := 0xFFFD }) = true ∧
    okay (busWrite 0xFEFF 0xC0 { wakeUp (hostGap (bad 0xFF00)) with sp := 0xFEFF }) = false ∧
    okay (busWrite 0xFF00 0xC0 { wakeUp (hostGap (bad 0xFF01)) with sp := 0xFF00 }) = true ∧
    okay (busWrite 0xFEFF 0x00 { wakeUp (hostGap (bad 0xFF01)) with sp := 0xFEFF }) = false := by decide +kernel

/-- IME raised by the latch, by RETI at once, lowered by DI and by a dispatch. -/
theorem wit_ImeChanges :
    nextWith (step (poke [(0xC000, 0x00)] { base with eiPending := true })) (·.ime) = true ∧
    nextWith (step (poke [(0xC000, 0xD9)] { base with params := { retiMode := .immediate } })) (·.ime) = true ∧
    nextWith (step (poke [(0xC000, 0xF3)] { base with ime := true })) (fun t => !t.ime) = true ∧
    nextWith (step { base with ime := true, ifReg := 1, ie := 1 }) (fun t => !t.ime) = true := by decide +kernel

/-- The frame statements: a next state with the outcome kept, with another outcome, one that stores and one that does not. -/
theorem wit_InstructionFrames :
    nextWith (exec .popAf { base with sp := 0xC000 }) (fun t => decide (t.outcome = .running)) = true ∧
    nextWith (exec .ldAIndHl { strict with regs := { h := 0xFE, l := 0xA0 } }) (fun t => decide (t.outcome ≠ .running)) = true ∧
    nextWith (exec .incIndHl { base with regs := { h := 0xC0, l := 0 } }) (fun t => decide (t.ram.read 0xC000 ≠ 0)) = true ∧
    storeAddresses (.callNzA16 0x1234) { base with regs := { f := 0x80 } } = [] ∧
    nextWith (exec (.callNzA16 0x1234) { base with regs := { f := 0x80 } }) (fun t => decide (t.busy = 3)) = true ∧
    nextWith (exec .reti { base with sp := 0xC000 }) (fun t => t.eiPending) = true := by decide +kernel

theorem wit_ChangeOnlyTheRam : plainRam base 0xFE00 = true ∧ region 0xFE00 = .oam ∧ plainRam base 0x8000 = true ∧
    storeAddresses (.ldhIndA8A 0x46) base = [0xFF46] ∧
    nextWith (exec (.ldhIndA8A 0x46) (poke [(0xC100, 0xAA)] { base with regs := { a := 0xC1 } })) (fun t =>
      decide (t.ram.read 0xFE00 = 0xAA)) = true := by decide +kernel

theorem wit_OverlayNeverReturns : base.bootDisabled = true ∧ nextWith (step base) (fun _ => true) = true := by decide +kernel

theorem wit_EveryTickKeepsTheInvariant : State.reset.Inv ∧ nextWith (step State.reset) (fun _ => true) = true ∧
    ({ base with regs := { f := 0xF0 }, ram := [(0x8000, 1), (0xFFFE, 2)],
                 ppu := { mode := .vBlank, line := 153, modeClock := 455 }, busy := 6 } : State).Inv := by decide +kernel

theorem wit_InvariantAtPowerOn : RamGood [(0x9FFF, 1), (0xC000, 2), (0xFE9F, 3), (0xFF80, 4)] ∧
    Memory.wf [(0x0000, 0xC3), (0x7FFF, 0xFF)] = true := by decide

theorem wit_RamStore :
    [(0x8000 : Word), 0x9FFF, 0xC000, 0xDFFF, 0xE000, 0xFDFF, 0xFE00, 0xFE9F, 0xFF80, 0xFFFE].all (plainRam base) = true ∧
    [(0xA000 : Word), 0xBFFF, 0xFEA0, 0xFF00, 0xFF7F, 0xFFFF, 0x7FFF].all (fun a => !plainRam base a) = true ∧
    (0xFDFF : Word).toNat = (0xDDFF : Word).toNat + 0x2000 := by decide +kernel

/-- The gate: each way it is closed, at the ends of the ranges, and open. -/
theorem wit_Gate :
    let lock (m : Mode) : State := { base with params := { vramOamLock := true }, ppu := { mode := m } }
    (lock .pixelTransfer).params.vramOamLock = true ∧
    busPeek true (lock .pixelTransfer) 0x9FFF = some 0xFF ∧ busPeek true (lock .oamScan) 0x8000 = some 0 ∧
    busPeek true (lock .oamScan) 0xFE00 = some 0xFF ∧ busPeek true (lock .pixelTransfer) 0xFE9F = some 0xFF ∧
    busPeek true (lock .hBlank) 0xFE9F = some 0 ∧ busPeek false (lock .pixelTransfer) 0x9FFF = some 0 := by decide +kernel

theorem wit_OverlayAndCartridge : (0x00FF : Word).toNat ≤ 0x00FF ∧ State.reset.bootDisabled = false ∧
    (0x0100 : Word).toNat ≤ 0x7FFF ∧ 0x00FF < (0x0100 : Word).toNat ∧ State.reset.cart.variant = .noBanking ∧
    (0xA000 ≤ (0xBFFF : Word).toNat ∧ (0xBFFF : Word).toNat ≤ 0xBFFF) ∧ base.bootDisabled = true := by decide

/-- Both ends of each unmapped range, under each policy. -/
theorem wit_Unmapped :
    [(0xFEA0 : Word), 0xFEFF, 0xFF01, 0xFF03, 0xFF08, 0xFF0E, 0xFF10, 0xFF3F, 0xFF4C, 0xFF4F, 0xFF51, 0xFF7F].all (fun a =>
      decide (busPeek true base a = some 0xFF) && decide (busPeek true strict a = none)) = true ∧
    base.params.unmappedPolicy = .sentinel ∧ strict.params.unmappedPolicy = .fault := by decide +kernel

/-- A whole DMA copy, and one whose second source byte cannot be read (its first is the joypad register's). -/
theorem wit_Dma :
    (∀ i < 160, busPeek false { base with ppu := { dma := 0xC1 } } (BitVec.ofNat 16 (256 * 0xC1 + i)) = some 0) ∧
    busPeek false { strict with ppu := { dma := 0xFF } } (BitVec.ofNat 16 (256 * 0xFF + 1)) = none := by decide +kernel

theorem wit_DmaFirstByte : busPeek false { strict with ppu := { dma := 0xFF } } (BitVec.ofNat 16 (256 * 0xFF + 0)) =
    some (Config.joypadRead 0) := rfl

/-- The timer: disabled, enabled with its counts within a byte, and at an overflow. -/
theorem wit_Timer :
    ({ tac := 3 } : Timer).tac.toNat < 4 ∧
    (let t : Timer := { divCounter := 0xFFFF, tima := 0xFE, tac := 5 }
     4 ≤ t.tac.toNat ∧ t.tima.toNat + ((t.divCounter.toNat + 4) / 16 - t.divCounter.toNat / 16) ≤ 0xFF) ∧
    (let t : Timer := { divCounter := 0x03FF, tima := 0xFF, tac := 4 }
     4 ≤ t.tac.toNat ∧ t.tima = 0xFF ∧ (t.divCounter.toNat + 1) % 1024 = 0) ∧
    (timerAdvance 4 { divCounter := 0x00FC, tima := 0xFF, tac := 7 }).2 = true := by decide +kernel

/-- The renderer: a visible line, the first line, line 143's last tick, a selected signal. -/
theorem wit_Renderer :
    (let p : Ppu := { line := 142 }
     p.mode = .oamScan ∧ p.modeClock = 0 ∧ p.line.toNat < 143) ∧ ({} : Ppu).line = 0 ∧
    (let s : State := { base with ppu := { mode := .hBlank, line := 143, modeClock := 203, statSel := 2 }, busy := 2 }
     s.params.rendererTicksPerStep = 1 ∧ s.params.lcdOffStopsRenderer = false ∧ s.outcome = .running ∧
       (rendererStep s).2.st = true ∧ nextWith (step s) (fun t => decide (t.outcome = .running) && t.frameBit) = true) ∧
    rowsWf [(0, Vector.replicate 160 0), (143, Vector.replicate 160 3)] = true ∧
    (let s : State := { base with params := { lcdOffStopsRenderer := true } }
     s.params.lcdOffStopsRenderer = true ∧ s.ppu.lcdc.getLsbD 7 = false ∧
       ({ s with ppu := { s.ppu with lcdc := 0x80 } } : State).ppu.lcdc.getLsbD 7 = true) := by decide +kernel

/-- Loads, stores and stack accesses that end well and that fault: a bus address that reads and one that does not. -/
theorem wit_MemoryOperands :
    let s : State := { strict with regs := { h := 0xFE, l := 0xA0, b := 0xC0, d := 0xFE, e := 0xFF }, sp := 0xFE9F }
    busPeek true s s.bc = some 0 ∧ busPeek true s s.hl = none ∧ okay (busWrite s.bc 1 s) = true ∧
    okay (busWrite s.de 1 s) = false ∧ plainRam s s.bc = true ∧ s.ram.wf = true ∧
    (busPeek true s s.sp = some 0 ∧ busPeek true s (s.sp + 1) = none) ∧
    operandValue (.reg .d) s = some 0xFE ∧ operandValue .indHl { s with regs := { h := 0xFF, l := 0xFF } } = some 0 := by
  decide +kernel

/-- The same, for a read-modify-write of (HL): it completes, its read faults, or its read is good and its write faults (the
DMA register at 0xFF46, whose copy from page 0xFF meets an unmapped address). -/
theorem wit_ReadModifyWrite :
    let s : State := { base with regs := { h := 0xDF, l := 0xFF } }
    let u : State := { strict with regs := { h := 0xFF, l := 0x46 }, ppu := { dma := 0xFE } }
    busPeek true s s.hl = some 0 ∧ okay (busWrite s.hl 1 (afterRead s s.hl)) = true ∧
    busPeek true { strict with regs := { h := 0xFE, l := 0xA0 } } 0xFEA0 = none ∧
    busPeek true u u.hl = some 0xFE ∧ okay (busWrite u.hl 0xFF (afterRead u u.hl)) = false := by decide +kernel

/-- A two-word store and a push: both writes good, the first bad, the second bad. -/
theorem wit_TwoWrites :
    okay (busWrite 0xC000 1 strict) = true ∧ okay (busWrite 0xFEA0 1 strict) = false ∧
    okay (busWrite 0xFE9F 1 strict) = true ∧ okay (busWrite (0xFE9F + 1) 1 strict) = false ∧
    okay (push16 0x1234 base) = true ∧ okay (push16 0x1234 { strict with sp := 0xFF00 }) = false ∧
    okay (push16 0x1234 { strict with sp := 0xFF01 }) = false ∧ okay (busWrite 0xFF00 1 strict) = true ∧
    (plainRam base (0xFFFE - 1) = true ∧ plainRam base (0xFFFE - 2) = true ∧ ramKey (0xFFFE - 1) ≠ ramKey (0xFFFE - 2)) := by
  decide +kernel

theorem wit_Pop :
    (busPeek true base 0xFFFE = some 0 ∧ busPeek true base (0xFFFE + 1) = some 0) ∧ okay (pop16 base) = true ∧
    okay (pop16 { strict with sp := 0xFEA0 }) = false ∧ okay (pop16 { strict with sp := 0xFE9F }) = false := by decide +kernel

/-- Each condition taken and not taken. -/
theorem wit_Conditions :
    ∀ cc ∈ [Cond.nz, .z, .nc, .c],
      condHolds cc base ≠ condHolds cc { base with regs := { f := 0x90 } } := by decide +kernel

theorem wit_LowNibbleZero : LowNibbleZero { base with regs := { f := 0xF0 } } := by decide

theorem wit_System : base.params.stopMode = .refuse ∧
    { base with params := { stopMode := .haltUntilJoypad } }.params.stopMode = .haltUntilJoypad ∧
    { base with stopped := true }.stopped = true ∧
    (wakeUp { base with stopped := true, ifReg := 0x10, params := { stopMode := .haltUntilJoypad } }).stopped = false := by
  decide +kernel

/-- The stopped statement's clauses: one that stays stopped under each `STOP_MODE`, and one that the host's request wakes. -/
theorem wit_Stopped :
    let s := { base with stopped := true, busy := 1, params := { stopMode := .haltUntilJoypad } }
    let r := { s with params := { stopMode := .refuse } }
    let w := { s with joypadMoves := [true] }
    s.outcome = .running ∧ s.stopped = true ∧ (hostGap s).ifReg.getLsbD 4 = false ∧ r.params.stopMode = .refuse ∧
      w.params.stopMode = .haltUntilJoypad ∧ (hostGap w).ifReg.getLsbD 4 = true ∧ w.halted = false ∧ w.busy = 1 := by
  decide

/-- An operand of each form of an accumulator operation; no register and not (HL) holds the immediate. -/
theorem wit_AluForm :
    let s := poke [(0xC000, 0x77)] { base with regs := { h := 0xC0, l := 0x00 } }
    AluForm .adc s .adcAH 0xC0 1 ∧ AluForm .cp s .cpIndHl 0x77 2 ∧ AluForm .xor s (.xorD8 0x5A) 0x5A 2 :=
  ⟨.inl ⟨.reg .h, rfl, rfl, rfl⟩, .inl ⟨.indHl, by decide +kernel, rfl, rfl⟩, .inr ⟨rfl, rfl⟩⟩

theorem wit_UndefinedOpcodes :
    let s := poke [(0xC000, 0xED)] base
    let w := wakeUp (hostGap s)
    s.outcome = .running ∧ atDispatchPoint w = true ∧ interruptSelect w = none ∧ busPeek true w s.pc = some 0xED := by
  decide +kernel

/-- The members of the lists the statements range over are their own witnesses: one of each list. -/
theorem wit_ListMembers :
    ((Instr.ofLd (.reg .b) (.reg .c), base.get8 .c, 1) : Instr × Byte × Nat) ∈
      [(Instr.ofLd (.reg .b) (.reg .c), base.get8 .c, 1), (Instr.ofLdImm (.reg .b) 7, 7, 2)] ∧
    ((1, Instr.ldAIndHlInc, Instr.ldIndHlIncA) : Int × Instr × Instr) ∈
      [((1 : Int), Instr.ldAIndHlInc, Instr.ldIndHlIncA), (-1, .ldAIndHlDec, .ldIndHlDecA)] := by decide

end Sys2Proof.Tests
end

section
/-! PROOFS. The frame of an instruction, said once: which fields of the CPU each operation may write, and that every
instruction writes no others. The frame statements of 10_state.md are read off it. -/

namespace Sys2Proof.Machine

/-! ## What an operation may write -/

/-- The CPU fields an operation may write. Whatever it may not write, it leaves as it was (`Frame`). -/
structure Writes where
  reg : Reg8 → Prop := fun _ => False
  f : Prop := False
  sp : Prop := False
  pc : Prop := False
  halted : Prop := False
  stopped : Prop := False
  ime : Prop := False
  ei : Prop := False

/-- Every CPU field may be written. -/
def Writes.any : Writes := ⟨fun _ => True, True, True, True, True, True, True, True⟩

/-- From `s` to `t` the CPU changed in `w`'s fields alone. What no instruction changes is kept (`Kept`), F's low nibble
stays zero (R21) and `busy` stays within the longest cost (92_eei_decisions.md D37). -/
structure Frame (w : Writes) (s t : State) : Prop where
  kept : Kept s t
  get8 : ∀ r, ¬ w.reg r → t.get8 r = s.get8 r
  f : ¬ w.f → t.regs.f = s.regs.f
  lowNibble : LowNibbleZero s → LowNibbleZero t
  sp : ¬ w.sp → t.sp = s.sp
  pc : ¬ w.pc → t.pc = s.pc
  halted : ¬ w.halted → t.halted = s.halted
  stopped : ¬ w.stopped → t.stopped = s.stopped
  ime : ¬ w.ime → t.ime = s.ime
  ei : ¬ w.ei → t.eiPending = s.eiPending
  busy : s.busy ≤ 6 → t.busy ≤ 6

namespace Frame

variable {w : Writes} {s t u : State}

theorem refl (w : Writes) (s : State) : Frame w s s :=
  ⟨Kept.refl s, fun _ _ => rfl, fun _ => rfl, id, fun _ => rfl, fun _ => rfl, fun _ => rfl, fun _ => rfl, fun _ => rfl,
    fun _ => rfl, id⟩

/-- Two frames in a row. -/
theorem trans (h : Frame w s t) (k : Frame w t u) : Frame w s u :=
  ⟨h.kept.trans k.kept, fun r hr => (k.get8 r hr).trans (h.get8 r hr), fun n => (k.f n).trans (h.f n),
    k.lowNibble ∘ h.lowNibble, fun n => (k.sp n).trans (h.sp n), fun n => (k.pc n).trans (h.pc n),
    fun n => (k.halted n).trans (h.halted n), fun n => (k.stopped n).trans (h.stopped n),
    fun n => (k.ime n).trans (h.ime n), fun n => (k.ei n).trans (h.ei n), k.busy ∘ h.busy⟩

/-- What stays in any frame stays in the frame that lets every field be written. -/
theorem any (h : Frame w s t) : Frame .any s t :=
  ⟨h.kept, fun _ n => absurd trivial n, absurd trivial, h.lowNibble, absurd trivial, absurd trivial, absurd trivial,
    absurd trivial, absurd trivial, absurd trivial, h.busy⟩

/-- What keeps the CPU's own fields stays within every frame. -/
theorem cpuKept (h : Frame w s t) (k : Kept t u) (c : CpuKept t u) : Frame w s u where
  kept := h.kept.trans k
  get8 r hr := by rw [← h.get8 r hr]; cases r <;> simp only [State.get8, c.regs]
  f hf := by rw [c.regs, h.f hf]
  lowNibble hl := by rw [LowNibbleZero, c.regs]; exact h.lowNibble hl
  sp hw := c.sp.trans (h.sp hw)
  pc hw := c.pc.trans (h.pc hw)
  halted hw := c.halted.trans (h.halted hw)
  stopped hw := c.stopped.trans (h.stopped hw)
  ime hw := c.ime.trans (h.ime hw)
  ei hw := c.eiPending.trans (h.ei hw)
  busy hb := c.busy ▸ h.busy hb

/-! ## One rule per named update -/

theorem set8 (h : Frame w s t) {r : Reg8} (hr : w.reg r) (v : Byte) : Frame w s (t.set8 r v) where
  kept := h.kept.trans (t.set8_kept r v)
  get8 q hq := by rw [State.set8_get8_of_ne t v (by rintro rfl; exact hq hr), h.get8 q hq]
  f hf := by rw [State.set8_f, h.f hf]
  lowNibble hl := by rw [LowNibbleZero, State.set8_f]; exact h.lowNibble hl
  sp hw := by rw [State.set8_sp, h.sp hw]
  pc hw := by rw [State.set8_pc, h.pc hw]
  halted hw := by rw [State.set8_halted, h.halted hw]
  stopped hw := by rw [State.set8_stopped, h.stopped hw]
  ime hw := by rw [State.set8_ime, h.ime hw]
  ei hw := by rw [State.set8_eiPending, h.ei hw]
  busy hb := by rw [State.set8_busy]; exact h.busy hb

theorem setF (h : Frame w s t) (hf : w.f) (v : Byte) : Frame w s (t.setF v) :=
  ⟨h.kept.trans (t.setF_kept v), fun r hr => by rw [State.setF_get8, h.get8 r hr], absurd hf,
    fun _ => t.setF_lowNibble v, h.sp, h.pc, h.halted, h.stopped, h.ime, h.ei, h.busy⟩

theorem setFlags (h : Frame w s t) (hf : w.f) (z n hc c : Bool) : Frame w s (t.setFlags z n hc c) := h.setF hf _

theorem setSp (h : Frame w s t) (hw : w.sp) (v : Word) : Frame w s (t.setSp v) :=
  ⟨h.kept.trans (t.setSp_kept v), h.get8, h.f, h.lowNibble, absurd hw, h.pc, h.halted, h.stopped, h.ime, h.ei, h.busy⟩

theorem setPc (h : Frame w s t) (hw : w.pc) (v : Word) : Frame w s (t.setPc v) :=
  ⟨h.kept.trans (t.setPc_kept v), h.get8, h.f, h.lowNibble, h.sp, absurd hw, h.halted, h.stopped, h.ime, h.ei, h.busy⟩

theorem setHalted (h : Frame w s t) (hw : w.halted) (v : Bool) : Frame w s (t.setHalted v) :=
  ⟨h.kept.trans (t.setHalted_kept v), h.get8, h.f, h.lowNibble, h.sp, h.pc, absurd hw, h.stopped, h.ime, h.ei, h.busy⟩

theorem setStopped (h : Frame w s t) (hw : w.stopped) (v : Bool) : Frame w s (t.setStopped v) :=
  ⟨h.kept.trans (t.setStopped_kept v), h.get8, h.f, h.lowNibble, h.sp, h.pc, h.halted, absurd hw, h.ime, h.ei, h.busy⟩

theorem setIme (h : Frame w s t) (hw : w.ime) (v : Bool) : Frame w s (t.setIme v) :=
  ⟨h.kept.trans (t.setIme_kept v), h.get8, h.f, h.lowNibble, h.sp, h.pc, h.halted, h.stopped, absurd hw, h.ei, h.busy⟩

theorem setEi (h : Frame w s t) (hw : w.ei) (v : Bool) : Frame w s (t.setEi v) :=
  ⟨h.kept.trans (t.setEi_kept v), h.get8, h.f, h.lowNibble, h.sp, h.pc, h.halted, h.stopped, h.ime, absurd hw, h.busy⟩

theorem setIf (h : Frame w s t) (v : BitVec 5) : Frame w s (t.setIf v) :=
  ⟨h.kept.trans (t.setIf_kept v), h.get8, h.f, h.lowNibble, h.sp, h.pc, h.halted, h.stopped, h.ime, h.ei, h.busy⟩

theorem setOutcome (h : Frame w s t) (o : RunOutcome) : Frame w s (t.setOutcome o) :=
  ⟨h.kept.trans (t.setOutcome_kept o), h.get8, h.f, h.lowNibble, h.sp, h.pc, h.halted, h.stopped, h.ime, h.ei, h.busy⟩

theorem setBusy (h : Frame w s t) {c : Nat} (hc : c ≤ 6) : Frame w s (t.setBusy c) :=
  ⟨h.kept.trans (t.setBusy_kept c), h.get8, h.f, h.lowNibble, h.sp, h.pc, h.halted, h.stopped, h.ime, h.ei, fun _ => hc⟩

/-- A pair is written through its two registers, SP apart (R22). -/
theorem set16 (h : Frame w s t) {rr : Reg16} (hr : ∀ r ∈ (Shape.ld16 rr 0).dests, w.reg r) (hsp : rr = .sp → w.sp)
    (v : Word) : Frame w s (t.set16 rr v) := by
  cases rr with
  | bc => exact (h.set8 (hr .b (by decide)) _).set8 (hr .c (by decide)) _
  | de => exact (h.set8 (hr .d (by decide)) _).set8 (hr .e (by decide)) _
  | hl => exact (h.set8 (hr .h (by decide)) _).set8 (hr .l (by decide)) _
  | sp => exact h.setSp (hsp rfl) v

theorem setHl (h : Frame w s t) (hh : w.reg .h) (hl : w.reg .l) (v : Word) : Frame w s (t.set16 .hl v) :=
  (h.set8 hh _).set8 hl _

/-- An accumulator operation writes F, and A but for CP (R160, R169). -/
theorem applyAlu (h : Frame w s t) (hf : w.f) {op : AluOp} (ha : op ≠ .cp → w.reg .a) (b : Byte) :
    Frame w s (t.applyAlu op b) := by
  unfold State.applyAlu
  split
  · exact h.setFlags hf _ _ _ _
  · next hop => exact (h.setFlags hf _ _ _ _).set8 (ha hop) _

/-! ## Sequences of accesses -/

theorem access {α : Type} (h : Frame w s t) {x : Access α} (hx : x.Tame t) : Frame w s x.after := h.cpuKept hx.kept hx.cpu

theorem bind {α β : Type} {x : Access α} {k : α → State → Access β} (h : Frame w s x.after)
    (hk : ∀ a t, Frame w s t → Frame w s (k a t).after) : Frame w s (x.bind k).after := by
  cases x with
  | ok a t => exact hk a t h
  | stop t => exact h

end Frame

/-- Whatever next state a result answers is within the frame. -/
def Framed (w : Writes) (s : State) (r : Result) : Prop := ∀ t, r = .next t → Frame w s t

theorem Frame.next {w : Writes} {s t : State} (h : Frame w s t) : Framed w s (.next t) := by
  intro u hu; cases hu; exact h

theorem Frame.done {w : Writes} {s t : State} (h : Frame w s t) {c : Nat} (hc : c ≤ 6) : Framed w s (done c t) :=
  (h.setBusy hc).next

theorem Frame.finish {w : Writes} {s : State} {x : Access Unit} (h : Frame w s x.after) {c : Nat} (hc : c ≤ 6) :
    Framed w s (x.finish c) := by
  cases x with
  | ok _ t => exact (h.setBusy hc).next
  | stop t => exact h.next

/-! ## The shared operations -/

section
variable {w : Writes} {s t : State}

theorem push16_frame (h : Frame w s t) (hsp : w.sp) (v : Word) : Frame w s (push16 v t).after :=
  ((h.setSp hsp _).access (busWrite_tame _ _ _)).bind fun _ _ hu => (hu.setSp hsp _).access (busWrite_tame _ _ _)

theorem pop16_frame (h : Frame w s t) (hsp : w.sp) : Frame w s (pop16 t).after :=
  (h.access (busRead_tame _ _)).bind fun _ _ hu =>
    ((hu.setSp hsp _).access (busRead_tame _ _)).bind fun _ _ hv => hv.setSp hsp _

theorem callTo_frame (h : Frame w s t) (hsp : w.sp) (hpc : w.pc) (target : Word) : Frame w s (callTo target t).after :=
  (push16_frame h hsp _).bind fun _ _ hu => hu.setPc hpc _

theorem popPc_frame (h : Frame w s t) (hsp : w.sp) (hpc : w.pc) : Frame w s (popPc t).after :=
  (pop16_frame h hsp).bind fun _ _ hu => hu.setPc hpc _

theorem fetch8_frame (h : Frame w s t) (hpc : w.pc) : Frame w s (fetch8 t).after :=
  (h.access (busRead_tame _ _)).bind fun _ _ hu => hu.setPc hpc _

theorem fetchBytes_frame (hpc : w.pc) (n : Nat) (h : Frame w s t) : Frame w s (fetchBytes n t).after := by
  induction n generalizing t with
  | zero => exact h
  | succ n ih => exact (fetch8_frame h hpc).bind fun _ _ hu => (ih hu).bind fun _ _ hv => hv

theorem writeR8_frame (h : Frame w s t) {x : R8} (hx : ∀ r, x = .reg r → w.reg r) (v : Byte) :
    Frame w s (writeR8 x v t).after := by
  cases x with
  | reg r => exact h.set8 (hx r rfl) v
  | indHl => exact h.access (busWrite_tame _ _ _)

theorem prefixedCost_le {x : R8} {m n k : Nat} (hm : m ≤ k) (hn : n ≤ k) : prefixedCost x m n ≤ k := by
  cases x <;> assumption

/-- INC and DEC (R170 to R173). -/
theorem stepR8_framed (g : Byte → Bool → Flagged) {x : R8} (hx : ∀ r, x = .reg r → w.reg r) (hf : w.f) {c : Nat}
    (hc : c ≤ 6) : Framed w s (stepR8 g x c s) := by
  refine Frame.finish (((Frame.refl w s).access (readR8_tame x s)).bind fun _ _ hu => ?_) hc
  refine (writeR8_frame hu hx _).bind fun _ _ hv => ?_
  exact hv.setFlags hf _ _ _ _

theorem shiftR8_framed (op : ShiftOp) {x : R8} (hx : ∀ r, x = .reg r → w.reg r) (hf : w.f) {c : Nat} (hc : c ≤ 6) :
    Framed w s (shiftR8 op x c s) := by
  refine Frame.finish (((Frame.refl w s).access (readR8_tame x s)).bind fun _ _ hu => ?_) hc
  refine (writeR8_frame hu hx _).bind fun _ _ hv => ?_
  exact hv.setFlags hf _ _ _ _

theorem addHl_framed (rr : Reg16) (hh : w.reg .h) (hl : w.reg .l) (hf : w.f) : Framed w s (addHl rr s) :=
  (((Frame.refl w s).setFlags hf _ _ _ _).setHl hh hl _).done (by decide)

theorem jumpIf_framed (hpc : w.pc) {b : Bool} {target : Word} {m n : Nat} (hm : m ≤ 6) (hn : n ≤ 6) :
    Framed w s (jumpIf b target m n s) := by
  cases b with
  | false => exact (Frame.refl w s).done hm
  | true => exact ((Frame.refl w s).setPc hpc _).done hn

theorem callIf_framed (hsp : w.sp) (hpc : w.pc) {b : Bool} {target : Word} {m n : Nat} (hm : m ≤ 6) (hn : n ≤ 6) :
    Framed w s (callIf b target m n s) := by
  cases b with
  | false => exact (Frame.refl w s).done hm
  | true => exact (callTo_frame (.refl w s) hsp hpc target).finish hn

theorem returnIf_framed (hsp : w.sp) (hpc : w.pc) {b : Bool} {m n : Nat} (hm : m ≤ 6) (hn : n ≤ 6) :
    Framed w s (returnIf b m n s) := by
  cases b with
  | false => exact (Frame.refl w s).done hm
  | true => exact (popPc_frame (.refl w s) hsp hpc).finish hn

/-- RETI: the latch under the delayed mode, IME under the immediate one (R242). -/
theorem returnFromInterrupt_frame (hsp : w.sp) (hpc : w.pc) (hei : w.ei) (hime : s.params.retiMode = .immediate → w.ime) :
    Frame w s (returnFromInterrupt s).after := by
  refine (pop16_frame (.refl w s) hsp).bind fun v t h => ?_
  cases hm : t.params.retiMode with
  | delayed => simpa only [hm, Access.after_ok] using (h.setPc hpc v).setEi hei true
  | immediate => simpa only [hm, Access.after_ok] using (h.setPc hpc v).setIme (hime (h.kept.params ▸ hm)) true

theorem execStop_framed (hst : w.stopped) (b : Byte) : Framed w s (execStop b s) := by
  unfold execStop
  split
  · exact (((Frame.refl w s).setStopped hst true).setOutcome _).next
  · exact ((Frame.refl w s).setStopped hst true).done (by decide)

end

/-! ## The instructions -/

/-- What a shape may write: the lists of `Laws/Shape.lean`, and of the control state what R27 to R29 name. -/
def Shape.writes (x : Shape) (s : State) : Writes where
  reg r := r ∈ x.dests
  f := x.writesF = true
  sp := x.writesSp = true
  pc := x.transfers = true
  halted := x = .halt
  stopped := x = .stop
  ime := x = .di ∨ x = .reti ∧ s.params.retiMode = .immediate
  ei := x = .di ∨ x = .ei ∨ x = .reti

/-- Whether the cost that a load or store shape carries lies in the range of 92_eei_decisions.md D37; the other shapes
have their cost fixed in `Shape.run`. -/
def Shape.costInRange : Shape → Bool
  | .load _ _ c => decide (1 ≤ c ∧ c ≤ 6)
  | .store _ _ c => decide (1 ≤ c ∧ c ≤ 6)
  | _ => true

theorem shape_costInRange (i : Instr) : (shape i).costInRange = true := by
  cases i
  case prefixCb op2 =>
    show (Shape.ofPrefixed op2).costInRange = true
    unfold Shape.ofPrefixed
    split <;> rfl
  all_goals rfl

theorem mem_dests_alu {op : AluOp} (x : R8) (h : op ≠ .cp) : Reg8.a ∈ (Shape.alu op x).dests := by
  cases op with
  | cp => exact absurd rfl h
  | _ => exact .head _

theorem mem_dests_aluImm {op : AluOp} (n : Byte) (h : op ≠ .cp) : Reg8.a ∈ (Shape.aluImm op n).dests := by
  cases op with
  | cp => exact absurd rfl h
  | _ => exact .head _

theorem Shape.run_framed (x : Shape) (hc : x.costInRange = true) (s : State) : Framed (x.writes s) s (x.run s) := by
  have h0 := Frame.refl (x.writes s) s
  cases x with
  | ld dst r => exact (h0.set8 (.head _) _).done (by decide)
  | ldImm dst n => exact (h0.set8 (.head _) _).done (by decide)
  | load dst a c =>
    refine Frame.finish ((h0.access (busRead_tame _ s)).bind fun _ _ h => ?_) (of_decide_eq_true hc).2
    exact h.set8 (.head _) _
  | store a v c => exact (h0.access (busWrite_tame _ _ s)).finish (of_decide_eq_true hc).2
  | storeMove d =>
    refine Frame.finish ((h0.access (busWrite_tame _ _ s)).bind fun _ _ h => ?_) (by decide)
    exact h.setHl (.head _) (.tail _ (.head _)) _
  | loadMove d =>
    refine Frame.finish ((h0.access (busRead_tame _ s)).bind fun _ _ h => ?_) (by decide)
    exact (h.set8 (.head _) _).setHl (.tail _ (.head _)) (.tail _ (.tail _ (.head _))) _
  | ld16 rr nn => exact (h0.set16 (fun r hr => by cases rr <;> exact hr) (by rintro rfl; rfl) nn).done (by decide)
  | storeSp nn => exact (h0.access (busWrite16_tame nn s.sp s)).finish (by decide)
  | ldSpHl => exact (h0.setSp rfl _).done (by decide)
  | push rr => exact (push16_frame h0 rfl _).finish (by decide)
  | pop rr =>
    refine ((pop16_frame h0 rfl).bind fun v t h => ?_).finish (by decide)
    cases rr with
    | bc => exact (h.set8 (.head _) _).set8 (.tail _ (.head _)) _
    | de => exact (h.set8 (.head _) _).set8 (.tail _ (.head _)) _
    | hl => exact (h.set8 (.head _) _).set8 (.tail _ (.head _)) _
    | af => exact (h.set8 (.head _) _).setF rfl _
  | alu op x =>
    refine Frame.finish ((h0.access (readR8_tame x s)).bind fun v _ h => ?_) (prefixedCost_le (by decide) (by decide))
    exact h.applyAlu rfl (mem_dests_alu x) v
  | aluImm op n =>
    exact (h0.applyAlu rfl (mem_dests_aluImm n) n).done (by decide)
  | inc x => exact stepR8_framed _ (by rintro r rfl; exact .head _) rfl (prefixedCost_le (by decide) (by decide))
  | dec x => exact stepR8_framed _ (by rintro r rfl; exact .head _) rfl (prefixedCost_le (by decide) (by decide))
  | daa => exact ((h0.set8 (.head _) _).setFlags rfl _ _ _ _).done (by decide)
  | cpl => exact ((h0.set8 (.head _) _).setFlags rfl _ _ _ _).done (by decide)
  | scf => exact (h0.setFlags rfl _ _ _ _).done (by decide)
  | ccf => exact (h0.setFlags rfl _ _ _ _).done (by decide)
  | addHl rr => exact addHl_framed rr (.head _) (.tail _ (.head _)) rfl
  | inc16 rr => exact (h0.set16 (fun r hr => by cases rr <;> exact hr) (by rintro rfl; rfl) _).done (by decide)
  | dec16 rr => exact (h0.set16 (fun r hr => by cases rr <;> exact hr) (by rintro rfl; rfl) _).done (by decide)
  | addSp e => exact ((h0.setFlags rfl _ _ _ _).setSp rfl _).done (by decide)
  | ldHlSp e => exact ((h0.setFlags rfl _ _ _ _).setHl (.head _) (.tail _ (.head _)) _).done (by decide)
  | rotA op => exact ((h0.set8 (.head _) _).setFlags rfl _ _ _ _).done (by decide)
  | shift op x => exact shiftR8_framed op (by rintro r rfl; exact .head _) rfl (prefixedCost_le (by decide) (by decide))
  | bit n x =>
    refine Frame.finish ((h0.access (readR8_tame x s)).bind fun _ _ h => ?_) (prefixedCost_le (by decide) (by decide))
    exact h.setFlags rfl _ _ _ _
  | res n x =>
    refine Frame.finish ((h0.access (readR8_tame x s)).bind fun _ _ h => ?_) (prefixedCost_le (by decide) (by decide))
    exact writeR8_frame h (by rintro r rfl; exact .head _) _
  | set n x =>
    refine Frame.finish ((h0.access (readR8_tame x s)).bind fun _ _ h => ?_) (prefixedCost_le (by decide) (by decide))
    exact writeR8_frame h (by rintro r rfl; exact .head _) _
  | jr e => exact (h0.setPc rfl _).done (by decide)
  | jrIf cc e => exact jumpIf_framed rfl (by decide) (by decide)
  | jp nn => exact (h0.setPc rfl _).done (by decide)
  | jpIf cc nn => exact jumpIf_framed rfl (by decide) (by decide)
  | jpHl => exact (h0.setPc rfl _).done (by decide)
  | call nn => exact (callTo_frame h0 rfl rfl nn).finish (by decide)
  | callIf cc nn => exact callIf_framed rfl rfl (by decide) (by decide)
  | rst t => exact (callTo_frame h0 rfl rfl t).finish (by decide)
  | ret => exact (popPc_frame h0 rfl rfl).finish (by decide)
  | retIf cc => exact returnIf_framed rfl rfl (by decide) (by decide)
  | reti =>
    refine Frame.finish (returnFromInterrupt_frame rfl rfl ?_ fun hm => ?_) (by decide)
    · exact .inr (.inr rfl)
    · exact .inr ⟨rfl, hm⟩
  | nop => exact h0.done (by decide)
  | stop => exact execStop_framed rfl 0
  | halt => exact (h0.setHalted rfl true).done (by decide)
  | di => exact ((h0.setIme (.inl rfl) false).setEi (.inl rfl) false).done (by decide)
  | ei => exact (h0.setEi (.inr (.inl rfl)) true).done (by decide)
  | undefined op => exact (h0.setOutcome _).next

/-- Every instruction stays within what its shape may write. -/
theorem exec_frame {i : Instr} {s t : State} (h : exec i s = .next t) : Frame ((shape i).writes s) s t :=
  (shape i).run_framed (shape_costInRange i) s t (exec_eq i s ▸ h)

end Sys2Proof.Machine
end

section
/-! PROOFS. The frame statements over all instructions and the 16-bit loads (10_state.md, 41_load16_stack.md). -/

namespace Sys2Proof.Machine

/-- Which instruction a shape that writes control state stands for. -/
def Shape.ControlOf (i : Instr) : Shape → Prop
  | .halt => i = .halt
  | .stop => ∃ b, i = .stop b
  | .di => i = .di
  | .ei => i = .ei
  | .reti => i = .reti
  | _ => True

theorem shape_controlOf (i : Instr) : (shape i).ControlOf i := by
  cases i
  case prefixCb op2 =>
    show (Shape.ofPrefixed op2).ControlOf _
    unfold Shape.ofPrefixed
    split <;> trivial
  case stop b => exact ⟨b, rfl⟩
  all_goals trivial

theorem eq_halt_of_shape {i : Instr} (h : shape i = .halt) : i = .halt := by
  have hc := shape_controlOf i
  rwa [h] at hc

theorem eq_stop_of_shape {i : Instr} (h : shape i = .stop) : ∃ b, i = .stop b := by
  have hc := shape_controlOf i
  rwa [h] at hc

theorem eq_di_of_shape {i : Instr} (h : shape i = .di) : i = .di := by
  have hc := shape_controlOf i
  rwa [h] at hc

theorem eq_ei_of_shape {i : Instr} (h : shape i = .ei) : i = .ei := by
  have hc := shape_controlOf i
  rwa [h] at hc

theorem eq_reti_of_shape {i : Instr} (h : shape i = .reti) : i = .reti := by
  have hc := shape_controlOf i
  rwa [h] at hc

/-- IME is written by DI, and by RETI under the immediate mode (R28). -/
theorem writes_ime {i : Instr} {s : State} (h : ((shape i).writes s).ime) :
    i = .di ∨ i = .reti ∧ s.params.retiMode = .immediate :=
  h.imp eq_di_of_shape (And.imp_left eq_reti_of_shape)

/-- The latch is written by DI, EI and RETI (R29). -/
theorem writes_ei {i : Instr} {s : State} (h : ((shape i).writes s).ei) : i = .di ∨ i = .ei ∨ i = .reti :=
  h.imp eq_di_of_shape (Or.imp eq_ei_of_shape eq_reti_of_shape)

/-- Settles O14: the lists are those of the instruction's shape, which `exec_frame` keeps to. -/
theorem instructionsKeepTheOtherCpuRegisters : Obligations.InstructionsKeepTheOtherCpuRegisters := by
  intro i s t h
  have hf := exec_frame h
  rw [destRegs_eq, writesF_eq, writesSp_eq, transfersControl_eq]
  exact ⟨hf.get8, fun hw => hf.f (Bool.eq_false_iff.1 hw), fun hw => hf.sp (Bool.eq_false_iff.1 hw),
    fun hw => hf.pc (Bool.eq_false_iff.1 hw)⟩

/-- Settles O15, from the control state in `Shape.writes`. -/
theorem instructionsKeepTheOtherControlState : Obligations.InstructionsKeepTheOtherControlState := by
  intro i s t h
  have hf := exec_frame h
  refine ⟨fun hi => hf.halted (mt eq_halt_of_shape hi), fun hi => hf.stopped fun hw => ?_,
    fun hdi hreti => hf.ime fun hw => ?_, fun hdi hei hreti => hf.ei fun hw => ?_⟩
  · obtain ⟨b, hb⟩ := eq_stop_of_shape hw
    exact hi b hb
  · obtain hi | ⟨hi, hm⟩ := writes_ime hw
    · exact hdi hi
    · obtain hne | hd := hreti
      · exact hne hi
      · cases hd.symm.trans hm
  · obtain hi | hi | hi := writes_ei hw
    · exact hdi hi
    · exact hei hi
    · exact hreti hi

/-! ## The 16-bit loads -/

theorem lo_eq_ofNat (v : Word) : lo v = BitVec.ofNat 8 v.toNat := BitVec.eq_of_toNat_eq (by simp [lo_toNat])

theorem hi_eq_ofNat (v : Word) : hi v = BitVec.ofNat 8 (v.toNat / 256) :=
  BitVec.eq_of_toNat_eq (by rw [hi_toNat, BitVec.toNat_ofNat]; omega)

/-- A write of a pair leaves the other pairs (R22). -/
theorem State.set16_get16_of_ne (s : State) {rr q : Reg16} (v : Word) (h : q ≠ rr) :
    (s.set16 rr v).get16 q = s.get16 q := by
  cases rr <;> cases q <;> first | rfl | exact absurd rfl h

theorem State.set16_af (s : State) (rr : Reg16) (v : Word) : (s.set16 rr v).af = s.af := by cases rr <;> rfl

/-- A write of a pair changes the register file and SP at most. -/
theorem State.set16_eq (s : State) (rr : Reg16) (v : Word) :
    s.set16 rr v = { s with regs := (s.set16 rr v).regs, sp := (s.set16 rr v).sp } := by cases rr <;> rfl

theorem exec_ofLd16 (rr : Reg16) (nn : Word) (s : State) :
    exec (Instr.ofLd16 rr nn) s = .next ((s.set16 rr nn).setBusy 3) := by rw [exec_eq, shape_ofLd16]; rfl

/-- LD (a16),SP is two bus writes in a row, the low byte's first (R143). -/
theorem exec_ldIndA16Sp (nn : Word) (s : State) :
    exec (.ldIndA16Sp nn) s = ((busWrite nn (BitVec.ofNat 8 s.sp.toNat) s).bind fun _ t =>
      busWrite (nn + 1) (BitVec.ofNat 8 (s.sp.toNat / 256)) t).finish 5 := by
  rw [← lo_eq_ofNat, ← hi_eq_ofNat]; rfl

/-- Settles O39, each load by its equation above. -/
theorem sixteenBitLoads : Obligations.SixteenBitLoads := by
  intro s rr nn
  refine ⟨⟨word_toNat _ _, word_toNat _ _, word_toNat _ _, word_toNat _ _⟩, ?_, rfl, ?_, ?_, ?_⟩
  · refine ⟨_, exec_ofLd16 rr nn s, s.set16_get16_self rr nn, fun q hq => s.set16_get16_of_ne nn hq, s.set16_af rr nn, ?_⟩
    rw [s.set16_eq rr nn]; rfl
  · intro t1 t2 h1 h2
    rw [exec_ldIndA16Sp, h1, Access.bind_ok, h2]; rfl
  · intro t1 h1
    rw [exec_ldIndA16Sp, h1]; rfl
  · intro t1 t2 h1 h2
    rw [exec_ldIndA16Sp, h1, Access.bind_ok, h2]; rfl

end Sys2Proof.Machine
end

section
/-! PROOFS. What one tick can do, said once per phase (60_exceptions.md R340). -/

namespace Sys2Proof.Machine

/-! ## Fetching, and the interrupt's dispatch -/

/-- Fetching and executing: the fetch stops, or the instruction that the fetched bytes decode to runs after it, the
byte at the pc being the first of them (R91). -/
theorem fetchAndExecute_cases {s t : State} (h : fetchAndExecute exec s = .next t) :
    Frame { pc := True } s t ∨ ∃ op rest u, busPeek true s s.pc = some op ∧ Frame { pc := True } s u ∧
      exec (decodeBytes (op :: rest)) u = .next t := by
  have hf : Frame { pc := True } s (fetch8 s).after := fetch8_frame (.refl _ s) trivial
  unfold fetchAndExecute at h
  cases hop : busPeek true s s.pc with
  | none =>
    rw [fetch8_of_none hop] at h hf
    cases h
    exact .inl hf
  | some op =>
    rw [fetch8_of_peek hop] at h hf
    have hb := fetchBytes_frame trivial (lengthOf op - 1) hf
    rw [Access.bind_ok] at h
    cases hr : fetchBytes (lengthOf op - 1) ((afterRead s s.pc).setPc (s.pc + 1)) with
    | stop u => rw [Access.after_ok, hr] at hb; rw [hr] at h; cases h; exact .inl hb
    | ok rest u => rw [Access.after_ok, hr] at hb; rw [hr] at h; exact .inr ⟨op, rest, u, rfl, hb, h⟩

theorem interruptDispatch_framed (n : IntSource) (s : State) :
    Framed { sp := True, pc := True, ime := True, ei := True } s (interruptDispatch n s) := by
  refine Frame.finish ((callTo_frame (.refl _ s) trivial trivial _).bind fun _ _ h => ?_) (by decide)
  exact ((h.setIme trivial false).setEi trivial false).setIf _

/-- The latch's commit changes nothing, or raises IME and clears a latch that was set before (R341). -/
theorem commitLatch_cases (before : Bool) (s : State) :
    commitLatch before s = s ∨ before = true ∧ commitLatch before s = (s.setIme true).setEi false := by
  unfold commitLatch
  split
  · next h => exact .inr ⟨by simp_all, rfl⟩
  · exact .inl rfl

/-- What steps (2) and (3) can do: nothing, take the selected interrupt, or execute and commit the latch. -/
theorem dispatchPhase_cases {s t : State} (h : dispatchPhase exec s = .next t) :
    t = s ∨ (∃ n, interruptSelect s = some n ∧ interruptDispatch n s = .next t) ∨
      (∃ u, fetchAndExecute exec s = .next u ∧ t = commitLatch s.eiPending u) := by
  unfold dispatchPhase at h
  split at h
  · split at h
    · next n hn => exact .inr (.inl ⟨n, hn, h⟩)
    · split at h
      · next u hu => cases h; exact .inr (.inr ⟨u, hu, rfl⟩)
      · next hne => exact absurd h (hne t)
  · cases h; exact .inl rfl

/-- Whatever steps (2) and (3) do, the fields beyond the CPU's own are kept. -/
theorem dispatchPhase_frame {s t : State} (h : dispatchPhase exec s = .next t) : Frame .any s t := by
  rcases dispatchPhase_cases h with rfl | ⟨n, -, hn⟩ | ⟨u, hu, rfl⟩
  · exact .refl _ t
  · exact (interruptDispatch_framed n s t hn).any
  · have hf : Frame .any s u := by
      rcases fetchAndExecute_cases hu with hf | ⟨op, rest, v, -, hv, he⟩
      · exact hf.any
      · exact hv.any.trans (exec_frame he).any
    rcases commitLatch_cases s.eiPending u with hc | ⟨-, hc⟩ <;> rw [hc]
    · exact hf
    · exact (hf.setIme trivial true).setEi trivial false

/-! ## The rest of the tick, as record updates -/

theorem hostGap_eq (s : State) :
    ∃ irq, hostGap s = { s with joypadMoves := s.joypadMoves.tail, frameBit := false, ifReg := irq } := by
  unfold hostGap
  split <;> exact ⟨_, rfl⟩

theorem wakeUp_eq (s : State) : ∃ h st, wakeUp s = { s with halted := h, stopped := st } := by
  unfold wakeUp
  dsimp only
  split <;> split <;> exact ⟨_, _, rfl⟩

theorem ite_raiseInt (b : Bool) (s : State) (n : IntSource) :
    (if b then s.raiseInt n else s) = s.setIf (if b then s.ifReg ||| n.mask else s.ifReg) := by cases b <;> rfl

/-- The devices change the renderer, the timer, IF and the frame bit alone. -/
theorem deviceStep_eq (s : State) : ∃ timer irq frame,
    deviceStep s = { s with ppu := (rendererStep s).1, timer := timer, ifReg := irq, frameBit := frame } := by
  unfold deviceStep
  simp only [ite_raiseInt, State.setIf, State.setPpu, State.setTimer]
  exact ⟨_, _, _, rfl⟩

theorem accounting_eq (s : State) : ∃ busy clock, busy ≤ s.busy ∧ accounting s = { s with busy := busy, clock := clock } := by
  unfold accounting
  split
  · exact ⟨_, _, le_rfl, rfl⟩
  · exact ⟨_, _, Nat.sub_le _ 1, rfl⟩

/-- What a tick can do: after the host's gap and the wake-up, steps (2) and (3); where these end the run, nothing more,
else the devices and the accounting. -/
theorem step_cases {s t : State} (h : step s = .next t) :
    ∃ u, dispatchPhase exec (wakeUp (hostGap s)) = .next u ∧ (t = u ∨ t = accounting (deviceStep u)) := by
  unfold step tick at h
  split at h
  · cases h
  · cases h
  · split at h
    · next u hu =>
      refine ⟨u, hu, ?_⟩
      split at h <;> cases h
      · exact .inr rfl
      · exact .inl rfl
    · next hne => exact absurd h (hne t)

end Sys2Proof.Machine
end

section
/-! PROOFS. The invariant over every tick, and what no tick changes (10_state.md R21, R35 to R39). -/

namespace Sys2Proof.Machine

/-! ## The renderer's own invariant -/

theorem modeBudget_pos (m : Mode) : 0 < modeBudget m := by cases m <;> decide

/-- Every row number of a framebuffer after a row is set was there before, or is the one set. -/
theorem mem_setRow {fb : List (Nat × Row)} {n : Nat} {row : Row} {c : Nat × Row} (h : c ∈ setRow fb n row) :
    c ∈ fb ∨ c.1 = n := by
  induction fb with
  | nil => exact .inr (by rw [List.mem_singleton.1 h])
  | cons d fb ih =>
    obtain ⟨k, r⟩ := d
    unfold setRow at h
    split at h
    · rcases List.mem_cons.1 h with rfl | h
      · exact .inr rfl
      · exact .inl h
    · split at h
      · rcases List.mem_cons.1 h with rfl | h
        · exact .inr rfl
        · exact .inl (.tail _ h)
      · rcases List.mem_cons.1 h with rfl | h
        · exact .inl (.head _)
        · exact (ih h).imp_left (.tail _)

theorem rowsWf_cons {k : Nat} {r : Row} {fb : List (Nat × Row)} :
    rowsWf ((k, r) :: fb) = true ↔ k < 144 ∧ (∀ c ∈ fb, k < c.1) ∧ rowsWf fb = true := by
  simp [rowsWf, and_assoc]

theorem rowsWf_setRow {fb : List (Nat × Row)} {n : Nat} (row : Row) (h : rowsWf fb = true) (hn : n < 144) :
    rowsWf (setRow fb n row) = true := by
  induction fb with
  | nil => exact rowsWf_cons.2 ⟨hn, nofun, rfl⟩
  | cons d fb ih =>
    obtain ⟨k, r⟩ := d
    obtain ⟨hk, hlt, hwf⟩ := rowsWf_cons.1 h
    unfold setRow
    split
    · next hnk =>
      refine rowsWf_cons.2 ⟨hn, fun c hc => ?_, h⟩
      rcases List.mem_cons.1 hc with rfl | hc
      · exact hnk
      · exact hnk.trans (hlt c hc)
    · next hnk =>
      split
      · next he => subst he; exact rowsWf_cons.2 ⟨hn, hlt, hwf⟩
      · next hne =>
        refine rowsWf_cons.2 ⟨hk, fun c hc => ?_, ih hwf⟩
        rcases mem_setRow hc with hc | hc
        · exact hlt c hc
        · omega

theorem ppuGood_of_cleared {p : Ppu} (h0 : p.modeClock = 0) (hline : p.line.toNat ≤ 153)
    (hvb : p.mode = .vBlank ↔ 144 ≤ p.line.toNat) (hfb : rowsWf p.framebuffer = true) : PpuGood p :=
  ⟨hline, hvb, h0 ▸ modeBudget_pos p.mode, hfb⟩

theorem line_succ_toNat {l : Byte} (h : l.toNat ≤ 153) : (l + 1).toNat = l.toNat + 1 := by bv_omega

/-- The end of a mode keeps the renderer's invariant, the counter having been cleared: HBlank of line 143 is what leads to
VBlank, and VBlank of line 153 what leads out of it (R360). -/
theorem leaveMode_good (ram : Memory) {p : Ppu} (h0 : p.modeClock = 0) (hline : p.line.toNat ≤ 153)
    (hvb : p.mode = .vBlank ↔ 144 ≤ p.line.toNat) (hfb : rowsWf p.framebuffer = true) :
    PpuGood (leaveMode ram p).1 := by
  have hl := line_succ_toNat hline
  cases hm : p.mode with
  | oamScan =>
    have hlt : ¬ 144 ≤ p.line.toNat := by simp [← hvb, hm]
    simp only [leaveMode, hm]
    exact ppuGood_of_cleared h0 hline (iff_of_false nofun hlt) hfb
  | pixelTransfer =>
    have hlt : ¬ 144 ≤ p.line.toNat := by simp [← hvb, hm]
    simp only [leaveMode, hm]
    exact ppuGood_of_cleared h0 hline (iff_of_false nofun hlt) (rowsWf_setRow _ hfb (Nat.lt_of_not_le hlt))
  | hBlank =>
    have hlt : ¬ 144 ≤ p.line.toNat := by simp [← hvb, hm]
    simp only [leaveMode, hm]
    split
    · next he =>
      have h144 : (p.line + 1).toNat = 144 := congrArg BitVec.toNat he
      exact ppuGood_of_cleared h0 (h144.trans_le (by decide)) (iff_of_true rfl h144.ge) hfb
    · next he =>
      have hne : (p.line + 1).toNat ≠ 144 := fun e => he (BitVec.eq_of_toNat_eq e)
      have hlt' : ¬ 144 ≤ (p.line + 1).toNat := by omega
      exact ppuGood_of_cleared h0 (show (p.line + 1).toNat ≤ 153 by omega) (iff_of_false nofun hlt') hfb
  | vBlank =>
    have hge := hvb.1 hm
    simp only [leaveMode, hm]
    split
    · exact ppuGood_of_cleared h0 (Nat.zero_le _) (iff_of_false nofun (show ¬ 144 ≤ (0 : Byte).toNat by decide)) hfb
    · exact ppuGood_of_cleared h0 (show (p.line + 1).toNat ≤ 153 by omega)
        (iff_of_true rfl (show 144 ≤ (p.line + 1).toNat by omega)) hfb

theorem rendererTick_good (ram : Memory) {p : Ppu} (h : PpuGood p) : PpuGood (rendererTick ram p).1 := by
  obtain ⟨hline, hvb, -, hfb⟩ := h
  unfold rendererTick
  dsimp only
  split
  · exact leaveMode_good ram rfl hline hvb hfb
  · next hc => exact ⟨hline, hvb, Nat.lt_of_not_le hc, hfb⟩

theorem rendererAdvance_good (ram : Memory) (k : Nat) {p : Ppu} (h : PpuGood p) : PpuGood (rendererAdvance ram k p).1 := by
  induction k generalizing p with
  | zero => exact h
  | succ k ih => exact ih (rendererTick_good ram h)

theorem rendererStep_good {s : State} (h : PpuGood s.ppu) : PpuGood (rendererStep s).1 := by
  unfold rendererStep
  split
  · exact h
  · exact rendererAdvance_good _ _ h

/-! ## The invariant, phase by phase -/

theorem Frame.inv {w : Writes} {s t : State} (h : Frame w s t) (hs : s.Inv) : t.Inv := by
  obtain ⟨hf, hram, hppu, himg, hbusy⟩ := hs
  have k := h.kept
  refine ⟨h.lowNibble hf, k.ramGood hram, ?_, ?_, h.busy hbusy⟩
  · simpa only [PpuGood, k.line, k.mode, k.modeClock, k.framebuffer] using hppu
  · simpa only [ImagesGood, k.rom, k.params] using himg

theorem hostGap_inv {s : State} (h : s.Inv) : (hostGap s).Inv := by
  obtain ⟨irq, he⟩ := hostGap_eq s
  rw [he]; exact h

theorem wakeUp_inv {s : State} (h : s.Inv) : (wakeUp s).Inv := by
  obtain ⟨hl, st, he⟩ := wakeUp_eq s
  rw [he]; exact h

theorem deviceStep_inv {s : State} (h : s.Inv) : (deviceStep s).Inv := by
  obtain ⟨hf, hram, hppu, himg, hbusy⟩ := h
  obtain ⟨timer, irq, frame, he⟩ := deviceStep_eq s
  rw [he]
  exact ⟨hf, hram, rendererStep_good hppu, himg, hbusy⟩

theorem accounting_inv {s : State} (h : s.Inv) : (accounting s).Inv := by
  obtain ⟨hf, hram, hppu, himg, hbusy⟩ := h
  obtain ⟨busy, clock, hle, he⟩ := accounting_eq s
  rw [he]
  exact ⟨hf, hram, hppu, himg, hle.trans hbusy⟩

/-- Settles O20, phase by phase: an instruction and an interrupt by their frames, the devices by the renderer's own
invariant. -/
theorem everyTickKeepsTheInvariant : Obligations.EveryTickKeepsTheInvariant := by
  intro s t hs h
  obtain ⟨u, hu, rfl | rfl⟩ := step_cases h
  all_goals have hinv := (dispatchPhase_frame hu).inv (wakeUp_inv (hostGap_inv hs))
  · exact hinv
  · exact accounting_inv (deviceStep_inv hinv)

/-! ## What lasts over every tick -/

/-- The overlay stays disabled once it is, and the parameters and the cartridge's fixed data stay (R37, R39). -/
structure Lasts (s t : State) : Prop where
  boot : s.bootDisabled = true → t.bootDisabled = true
  params : t.params = s.params
  variant : t.cart.variant = s.cart.variant
  rom : t.cart.rom = s.cart.rom

theorem Lasts.trans {s t u : State} (h : Lasts s t) (k : Lasts t u) : Lasts s u :=
  ⟨k.boot ∘ h.boot, k.params.trans h.params, k.variant.trans h.variant, k.rom.trans h.rom⟩

theorem Kept.lasts {s t : State} (h : Kept s t) : Lasts s t := ⟨h.boot, h.params, h.variant, h.rom⟩

theorem hostGap_lasts (s : State) : Lasts s (hostGap s) := by
  obtain ⟨irq, he⟩ := hostGap_eq s
  rw [he]; exact ⟨id, rfl, rfl, rfl⟩

theorem wakeUp_lasts (s : State) : Lasts s (wakeUp s) := by
  obtain ⟨hl, st, he⟩ := wakeUp_eq s
  rw [he]; exact ⟨id, rfl, rfl, rfl⟩

theorem deviceStep_lasts (s : State) : Lasts s (deviceStep s) := by
  obtain ⟨timer, irq, frame, he⟩ := deviceStep_eq s
  rw [he]; exact ⟨id, rfl, rfl, rfl⟩

theorem accounting_lasts (s : State) : Lasts s (accounting s) := by
  obtain ⟨busy, clock, -, he⟩ := accounting_eq s
  rw [he]; exact ⟨id, rfl, rfl, rfl⟩

/-- Settles O19, phase by phase. -/
theorem overlayNeverReturnsAndParametersStay : Obligations.OverlayNeverReturnsAndParametersStay := by
  intro s t h
  obtain ⟨u, hu, ht⟩ := step_cases h
  have hsu : Lasts s u :=
    ((hostGap_lasts s).trans (wakeUp_lasts _)).trans (dispatchPhase_frame hu).kept.lasts
  have hst : Lasts s t := by
    obtain rfl | rfl := ht
    · exact hsu
    · exact hsu.trans ((deviceStep_lasts u).trans (accounting_lasts _))
  exact ⟨hst.boot, hst.params, hst.variant, hst.rom⟩

end Sys2Proof.Machine
end

section
/-! PROOFS. What IME can do in one tick (10_state.md R28), with what DI and RETI are fetched as (30_encoding.md R98). -/

namespace Sys2Proof

/-! ## The opcodes of DI and RETI -/

theorem Oct.val_ofBits (n : Nat) : (Oct.ofBits n).val = n % 8 := by
  have h : n % 8 < 8 := Nat.mod_lt n (by decide)
  unfold Oct.ofBits
  generalize n % 8 = m at h ⊢
  interval_cases m <;> rfl

/-- An opcode byte is its three fields (R90). -/
theorem eq_of_fields {a b : Byte} (hx : fieldX a = fieldX b) (hy : fieldY a = fieldY b) (hz : fieldZ a = fieldZ b) :
    a = b := by
  have hy' := congrArg Oct.val hy
  have hz' := congrArg Oct.val hz
  simp only [fieldX] at hx
  simp only [fieldY, fieldZ, Oct.val_ofBits] at hy' hz'
  exact BitVec.eq_of_toNat_eq (by omega)

/-- An instruction that writes IME itself. -/
abbrev IsDiOrReti (i : Instr) : Prop := i = .di ∨ i = .reti

theorem decodeX0_not_diOrReti (y z : Oct) (b1 b2 : Byte) : ¬ IsDiOrReti (decodeX0 y z b1 b2) := by
  cases z <;> cases y <;> exact nofun

theorem ofLd_not_diOrReti (x y : R8) : ¬ IsDiOrReti (Instr.ofLd x y) := by
  rcases x with r | _ <;> rcases y with q | _ <;> [(cases r <;> cases q); cases r; cases q; skip] <;> exact nofun

theorem ofAlu_not_diOrReti (op : AluOp) (x : R8) : ¬ IsDiOrReti (Instr.ofAlu op x) := by
  rcases x with r | _
  · cases op <;> cases r <;> exact nofun
  · cases op <;> exact nofun

/-- In the block `x = 3`, DI is the row `y = 6`, `z = 3`, and RETI the row `y = 3`, `z = 1` (R98). -/
theorem decodeX3_diOrReti {y z : Oct} {b1 b2 : Byte} (h : IsDiOrReti (decodeX3 y z b1 b2)) :
    (decodeX3 y z b1 b2 = .di ∧ y = .i6 ∧ z = .i3) ∨ (decodeX3 y z b1 b2 = .reti ∧ y = .i3 ∧ z = .i1) := by
  revert h
  cases z
  case i1 =>
    cases y
    case i3 => exact fun _ => .inr ⟨rfl, rfl, rfl⟩
    all_goals exact nofun
  case i3 =>
    cases y
    case i6 => exact fun _ => .inl ⟨rfl, rfl, rfl⟩
    all_goals exact nofun
  all_goals cases y <;> exact nofun

namespace Machine

theorem decodePrefixed_not_diOrReti (op2 : Byte) : ¬ IsDiOrReti (decodePrefixed op2) := by
  have hs := shape_decodePrefixed op2
  unfold Shape.ofPrefixed at hs
  rintro (h | h) <;> rw [h] at hs <;> split at hs <;> cases hs

/-- Only 0xF3 decodes to DI, and only 0xD9 to RETI. -/
theorem decodeAt_diOrReti {op b1 b2 : Byte} (h : IsDiOrReti (decodeAt op b1 b2)) :
    (decodeAt op b1 b2 = .di ∧ op = 0xF3) ∨ (decodeAt op b1 b2 = .reti ∧ op = 0xD9) := by
  unfold decodeAt at h ⊢
  split at h
  · exact absurd h (decodePrefixed_not_diOrReti b1)
  · next hcb =>
    rw [if_neg hcb]
    unfold decodePrimary at h ⊢
    have hx := fieldX_lt op
    generalize hX : fieldX op = x at h hx ⊢
    rcases x with _ | _ | _ | x
    · exact absurd h (decodeX0_not_diOrReti _ _ _ _)
    · exact absurd h (ofLd_not_diOrReti _ _)
    · exact absurd h (ofAlu_not_diOrReti _ _)
    · obtain rfl : x = 0 := by omega
      obtain ⟨he, hy, hz⟩ | ⟨he, hy, hz⟩ := decodeX3_diOrReti h
      · exact .inl ⟨he, eq_of_fields hX hy hz⟩
      · exact .inr ⟨he, eq_of_fields hX hy hz⟩

theorem opcode_of_di {op : Byte} {rest : List Byte} (h : decodeBytes (op :: rest) = .di) : op = 0xF3 := by
  obtain ⟨-, ho⟩ | ⟨he, -⟩ := decodeAt_diOrReti (.inl h)
  · exact ho
  · cases h.symm.trans he

theorem opcode_of_reti {op : Byte} {rest : List Byte} (h : decodeBytes (op :: rest) = .reti) : op = 0xD9 := by
  obtain ⟨he, -⟩ | ⟨-, ho⟩ := decodeAt_diOrReti (.inr h)
  · cases h.symm.trans he
  · exact ho

/-! ## IME in an instruction, in steps (2) and (3), and in the rest of the tick -/

theorem exec_di (s : State) : exec .di s = .next (((s.setIme false).setEi false).setBusy 1) := rfl

/-- RETI leaves IME, or under the immediate mode raises it (R242). -/
theorem exec_reti_ime {s t : State} (h : exec .reti s = .next t) :
    t.ime = s.ime ∨ s.params.retiMode = .immediate ∧ t.ime = true := by
  change (returnFromInterrupt s).finish 4 = .next t at h
  unfold returnFromInterrupt at h
  have hp := pop16_frame (.refl { sp := True } s) trivial
  cases hr : pop16 s with
  | stop u =>
    rw [hr] at h hp; cases h
    exact .inl (hp.ime id)
  | ok v u =>
    rw [hr] at h hp
    cases hm : u.params.retiMode <;> simp only [Access.bind_ok, Access.finish_ok, hm] at h <;> cases h
    · exact .inl (hp.ime id)
    · exact .inr ⟨hp.kept.params ▸ hm, rfl⟩

/-- What an instruction does to IME (R28). -/
theorem exec_ime {i : Instr} {s t : State} (h : exec i s = .next t) :
    t.ime = s.ime ∨ (i = .di ∧ t.ime = false) ∨ (i = .reti ∧ s.params.retiMode = .immediate ∧ t.ime = true) := by
  by_cases hi : ((shape i).writes s).ime
  · obtain rfl | ⟨rfl, -⟩ := writes_ime hi
    · rw [exec_di] at h; cases h
      exact .inr (.inl ⟨rfl, rfl⟩)
    · exact (exec_reti_ime h).imp_right fun hr => .inr ⟨rfl, hr⟩
  · exact .inl ((exec_frame h).ime hi)

/-- The same through the fetch, the opcode at the pc saying which instruction it is. -/
theorem fetchAndExecute_ime {s t : State} (h : fetchAndExecute exec s = .next t) :
    t.ime = s.ime ∨ (busPeek true s s.pc = some 0xF3 ∧ t.ime = false) ∨
      (busPeek true s s.pc = some 0xD9 ∧ s.params.retiMode = .immediate ∧ t.ime = true) := by
  rcases fetchAndExecute_cases h with hf | ⟨op, rest, u, hop, hf, he⟩
  · exact .inl (hf.ime id)
  · rcases exec_ime he with hi | ⟨hi, ht⟩ | ⟨hi, hm, ht⟩
    · exact .inl (hi.trans (hf.ime id))
    · exact .inr (.inl ⟨opcode_of_di hi ▸ hop, ht⟩)
    · exact .inr (.inr ⟨opcode_of_reti hi ▸ hop, hf.kept.params ▸ hm, ht⟩)

theorem ime_of_interruptSelect {s : State} {n : IntSource} (h : interruptSelect s = some n) : s.ime = true := by
  by_contra hi
  rw [interruptSelect, if_neg hi] at h
  cases h

/-- What steps (2) and (3) do to IME: nothing, an interrupt's dispatch where it was set, the latch's commit, DI or RETI. -/
theorem dispatchPhase_ime {s t : State} (h : dispatchPhase exec s = .next t) :
    t.ime = s.ime ∨ (s.ime = true ∧ (interruptSelect s).isSome = true) ∨ (s.eiPending = true ∧ t.ime = true) ∨
      (busPeek true s s.pc = some 0xF3 ∧ t.ime = false) ∨
      (busPeek true s s.pc = some 0xD9 ∧ s.params.retiMode = .immediate ∧ t.ime = true) := by
  rcases dispatchPhase_cases h with rfl | ⟨n, hn, -⟩ | ⟨u, hu, rfl⟩
  · exact .inl rfl
  · exact .inr (.inl ⟨ime_of_interruptSelect hn, by rw [hn]; rfl⟩)
  · rcases commitLatch_cases s.eiPending u with hc | ⟨hb, hc⟩ <;> rw [hc]
    · exact (fetchAndExecute_ime hu).imp_right fun hi => .inr (.inr hi)
    · exact .inr (.inr (.inl ⟨hb, rfl⟩))

/-- The host's gap and the wake-up leave what IME's rules speak of. -/
theorem wakeUp_hostGap_cpu (s : State) :
    (wakeUp (hostGap s)).ime = s.ime ∧ (wakeUp (hostGap s)).eiPending = s.eiPending ∧
      (wakeUp (hostGap s)).pc = s.pc ∧ (wakeUp (hostGap s)).params = s.params := by
  obtain ⟨irq, hg⟩ := hostGap_eq s
  obtain ⟨hl, st, hw⟩ := wakeUp_eq (hostGap s)
  rw [hw, hg]
  exact ⟨rfl, rfl, rfl, rfl⟩

theorem accounting_deviceStep_ime (s : State) : (accounting (deviceStep s)).ime = s.ime := by
  obtain ⟨timer, irq, frame, hd⟩ := deviceStep_eq s
  obtain ⟨busy, clock, -, ha⟩ := accounting_eq (deviceStep s)
  rw [ha, hd]

/-- Settles O13, from what steps (2) and (3) do to IME; no other step touches it. -/
theorem imeChangesOnlyByLatchRetiDiOrDispatch : Obligations.ImeChangesOnlyByLatchRetiDiOrDispatch := by
  intro s t h w
  obtain ⟨hime, hei, hpc, hparams⟩ := wakeUp_hostGap_cpu s
  obtain ⟨u, hu, ht⟩ := step_cases h
  have htu : t.ime = u.ime := by
    obtain rfl | rfl := ht
    · rfl
    · exact accounting_deviceStep_ime u
  have hcases := dispatchPhase_ime hu
  rw [← htu, hime, hei, hpc, hparams] at hcases
  refine ⟨fun hs ht => ?_, fun hs ht => ?_⟩
  · simpa [hs, ht, and_comm] using hcases
  · simpa [hs, ht, or_comm] using hcases

end Machine
end Sys2Proof
end

section
/-! PROOFS. The bus by region (20_memory.md R51): what each access does there, and what a read depends on. The
statements about RAM, the gate, the cartridge, the unmapped addresses and the I/O registers are read off it. -/

namespace Sys2Proof.Machine

/-! ## The regions by address -/

/-- The first address of a region (R51). -/
def Region.first : Region → Nat
  | .rom => 0x0000
  | .vram => 0x8000
  | .cartRam => 0xA000
  | .wram => 0xC000
  | .echo => 0xE000
  | .oam => 0xFE00
  | .hole => 0xFEA0
  | .io => 0xFF00
  | .hram => 0xFF80
  | .ie => 0xFFFF

/-- The last address of a region (R51). -/
def Region.last : Region → Nat
  | .rom => 0x7FFF
  | .vram => 0x9FFF
  | .cartRam => 0xBFFF
  | .wram => 0xDFFF
  | .echo => 0xFDFF
  | .oam => 0xFE9F
  | .hole => 0xFEFF
  | .io => 0xFF7F
  | .hram => 0xFFFE
  | .ie => 0xFFFF

theorem region_eq_iff {a : Word} {r : Region} : region a = r ↔ r.first ≤ a.toNat ∧ a.toNat ≤ r.last := by
  have ha := a.isLt
  constructor
  · rintro rfl
    fun_cases region a <;> simp only [Region.first, Region.last] <;> omega
  · intro h
    cases r <;> simp only [Region.first, Region.last] at h <;> fun_cases region a <;> first | rfl | omega

section
variable {a : Word}

theorem ramKey_of_ne_echo (h : region a ≠ .echo) : ramKey a = a.toNat := by
  fun_cases ramKey a
  · contradiction
  · rfl

theorem ramKey_of_echo (h : region a = .echo) : ramKey a = a.toNat - 0x2000 := by rw [ramKey, h]

/-- Only OAM's addresses are kept at OAM's (R56). -/
theorem ramKey_of_ne_oam (h : region a ≠ .oam) : ramKey a < 0xFE00 ∨ 0xFEA0 ≤ ramKey a := by
  by_cases he : region a = .echo
  · obtain ⟨-, hle⟩ := region_eq_iff.1 he
    change _ ≤ 0xFDFF at hle
    rw [ramKey_of_echo he]; omega
  · have hoam : ¬ (0xFE00 ≤ a.toNat ∧ a.toNat ≤ 0xFE9F) := fun hr => h (region_eq_iff.2 hr)
    rw [ramKey_of_ne_echo he]; omega

end

/-! ## What a read depends on -/

/-- What a bus read answers from beside RAM and the joypad draw (R52) is the same in both states. -/
structure DevicesKept (s t : State) : Prop where
  cart : t.cart = s.cart
  boot : t.bootDisabled = s.bootDisabled
  ifReg : t.ifReg = s.ifReg
  ie : t.ie = s.ie
  timer : t.timer = s.timer
  ppu : t.ppu = s.ppu
  params : t.params = s.params

theorem DevicesKept.refl (s : State) : DevicesKept s s := ⟨rfl, rfl, rfl, rfl, rfl, rfl, rfl⟩

theorem DevicesKept.trans {s t u : State} (h : DevicesKept s t) (k : DevicesKept t u) : DevicesKept s u :=
  ⟨k.cart.trans h.cart, k.boot.trans h.boot, k.ifReg.trans h.ifReg, k.ie.trans h.ie, k.timer.trans h.timer,
    k.ppu.trans h.ppu, k.params.trans h.params⟩

theorem unmappedRead_congr {s t : State} (h : DevicesKept s t) : unmappedRead t = unmappedRead s := by
  rw [unmappedRead, h.params]; rfl

theorem ioRead_congr {s t : State} (h : DevicesKept s t) {a : Word} (hj : a = 0xFF00 → t.joypadDraws = s.joypadDraws) :
    ioRead t a = ioRead s a := by
  by_cases ha : a = 0xFF00
  · subst ha; rw [ioRead, ioRead, hj rfl]; rfl
  · have hne : a.toNat ≠ 0xFF00 := fun hn => ha (BitVec.eq_of_toNat_eq hn)
    simp only [ioRead, h.ifReg, h.timer, h.ppu, unmappedRead_congr h]
    split <;> first | rfl | contradiction

/-- A read depends on RAM at its own byte alone, on the devices, and at 0xFF00 on the joypad draw (R52, R66). -/
theorem busPeek_congr {s t : State} (h : DevicesKept s t) (g : Bool) {a : Word}
    (hram : t.ram.read (ramKey a) = s.ram.read (ramKey a)) (hj : a = 0xFF00 → t.joypadDraws = s.joypadDraws) :
    busPeek g t a = busPeek g s a := by
  unfold busPeek vramLocked oamLocked
  rw [h.cart, h.boot, h.ie, h.ppu, h.params, hram, unmappedRead_congr h, ioRead_congr h hj]

/-! ## RAM -/

section
variable {s : State} {a : Word}

theorem busPeek_of_plainRam (h : plainRam s a = true) : busPeek true s a = some (s.ram.read (ramKey a)) := by
  unfold plainRam at h
  unfold busPeek
  cases hr : region a <;> simp_all

theorem busWrite_of_plainRam (h : plainRam s a = true) (v : Byte) : busWrite a v s = .ok () (ramStore a v s) := by
  unfold plainRam at h
  unfold busWrite
  cases hr : region a <;> simp_all

end

@[simp] theorem vramLocked_setRam (s : State) (m : Memory) : vramLocked (s.setRam m) = vramLocked s := rfl

@[simp] theorem oamLocked_setRam (s : State) (m : Memory) : oamLocked (s.setRam m) = oamLocked s := rfl

@[simp] theorem plainRam_setRam (s : State) (m : Memory) (a : Word) : plainRam (s.setRam m) a = plainRam s a := rfl

@[simp] theorem unmappedRead_setRam (s : State) (m : Memory) : unmappedRead (s.setRam m) = unmappedRead s := rfl

@[simp] theorem ioRead_setRam (s : State) (m : Memory) (a : Word) : ioRead (s.setRam m) a = ioRead s a := rfl

/-- Where the CPU does not reach RAM, a read does not see it. -/
theorem busPeek_setRam_of_not_plainRam {s : State} {a : Word} (h : plainRam s a = false) (m : Memory) :
    busPeek true (s.setRam m) a = busPeek true s a := by
  unfold plainRam at h
  unfold busPeek
  cases hr : region a <;> simp_all

/-- A store that reaches RAM shows at the addresses of its byte and nowhere else (R56). -/
theorem busPeek_ramStore {s : State} {a : Word} (v : Byte) (hwf : s.ram.wf = true) (b : Word) :
    busPeek true (ramStore a v s) b =
      if plainRam s b = true ∧ ramKey b = ramKey a then some v else busPeek true s b := by
  cases hb : plainRam s b with
  | false => rw [if_neg (by simp), ramStore, busPeek_setRam_of_not_plainRam hb]
  | true =>
    rw [ramStore, busPeek_of_plainRam (by rw [plainRam_setRam, hb]), busPeek_of_plainRam hb, State.setRam_ram]
    by_cases hk : ramKey b = ramKey a
    · rw [if_pos ⟨rfl, hk⟩, hk, Memory.read_write_self _ _ _ hwf]
    · rw [if_neg fun h => hk h.2, Memory.read_write_of_ne _ _ hk]

/-! ## Single reads -/

/-- A read of any address but 0xFF00 changes nothing (R52). -/
theorem busRead_eq_ok {s : State} {a : Word} {v : Byte} (ha : a ≠ 0xFF00) (h : busPeek true s a = some v) :
    busRead a s = .ok v s := by rw [busRead_of_peek h, afterRead, if_neg ha]

theorem ne_joypad_of_plainRam {s : State} {a : Word} (h : plainRam s a = true) : a ≠ 0xFF00 := by
  rintro rfl; exact Bool.false_ne_true h

/-- Settles O23, from what a store that reaches RAM shows. -/
theorem ramStoreChangesOneByte : Obligations.RamStoreChangesOneByte := by
  refine ⟨fun s a v hwf h => ⟨?_, _, busWrite_of_plainRam h v, rfl, busPeek_ramStore v hwf⟩, fun a b h1 h2 hb => ?_⟩
  · exact busRead_eq_ok (ne_joypad_of_plainRam h) (busPeek_of_plainRam h)
  · have ha : region a = .wram := region_eq_iff.2 ⟨h1, Nat.le_trans h2 (by decide)⟩
    have hb' : region b = .echo := region_eq_iff.2 (by simp only [Region.first, Region.last]; omega)
    rw [ramKey_of_echo hb', ramKey_of_ne_echo (by rw [ha]; decide)]; omega

/-! ## The gate -/

theorem vramLocked_iff {s : State} :
    vramLocked s = true ↔ s.params.vramOamLock = true ∧ s.ppu.mode = .pixelTransfer := by simp [vramLocked]

theorem oamLocked_iff {s : State} :
    oamLocked s = true ↔ s.params.vramOamLock = true ∧ (s.ppu.mode = .oamScan ∨ s.ppu.mode = .pixelTransfer) := by
  simp [oamLocked]

/-- The CPU reaches an address of VRAM or OAM, or the gate closes it; the DMA copy reaches it either way (R62). -/
structure GateAt (s : State) (a : Word) (closed : Prop) : Prop where
  shut : closed → busPeek true s a = some 0xFF ∧ ∀ v, busWrite a v s = .ok () s
  opened : ¬ closed → busPeek true s a = some (s.ram.read a.toNat) ∧
    ∀ v, busWrite a v s = .ok () { s with ram := s.ram.write a.toNat v }
  dma : busPeek false s a = some (s.ram.read a.toNat)

theorem gateAt_vram {s : State} {a : Word} (hr : region a = .vram) : GateAt s a (vramLocked s = true) where
  shut h := by simp [busPeek, busWrite, hr, h]
  opened h := by simp [busPeek, busWrite, hr, h, ramKey, ramStore, State.setRam]
  dma := by simp [busPeek, hr, ramKey]

theorem gateAt_oam {s : State} {a : Word} (hr : region a = .oam) : GateAt s a (oamLocked s = true) where
  shut h := by simp [busPeek, busWrite, hr, h]
  opened h := by simp [busPeek, busWrite, hr, h, ramKey, ramStore, State.setRam]
  dma := by simp [busPeek, hr, ramKey]

/-- Settles O24, VRAM and OAM in turn. -/
theorem gateClosesVramAndOam : Obligations.GateClosesVramAndOam := by
  intro s a vram oam closed
  have hv : vram → GateAt s a closed := fun h => by
    have ho : ¬ oam := by omega
    have hc : closed ↔ vramLocked s = true := by simp [closed, h, ho, vramLocked_iff]
    rw [hc]
    exact gateAt_vram (region_eq_iff.2 h)
  have ho : oam → GateAt s a closed := fun h => by
    have hv : ¬ vram := by omega
    have hc : closed ↔ oamLocked s = true := by simp [closed, h, hv, oamLocked_iff]
    rw [hc]
    exact gateAt_oam (region_eq_iff.2 h)
  have hg : vram ∨ oam → GateAt s a closed := fun h => h.elim hv ho
  exact ⟨fun hc => (hg (hc.2.imp And.left And.left)).shut hc, fun h => (hg h).opened, fun h => (hg h).dma⟩

/-! ## The overlay and the cartridge -/

/-- The cartridge's addresses (R51). -/
theorem region_of_cart {a : Word} (ha : 0xA000 ≤ a.toNat ∧ a.toNat ≤ 0xBFFF ∨ a.toNat ≤ 0x7FFF) :
    region a = .cartRam ∨ region a = .rom :=
  ha.imp region_eq_iff.2 fun h => region_eq_iff.2 ⟨Nat.zero_le _, h⟩

theorem busPeek_cart {s : State} {a : Word} (hr : region a = .cartRam ∨ region a = .rom)
    (hb : s.bootDisabled = true ∨ 0x00FF < a.toNat) : busPeek true s a = cartRead s.cart a.toNat := by
  unfold busPeek
  obtain hr | hr := hr
  · rw [hr]
  · have hov : ¬ (!s.bootDisabled && decide (a.toNat ≤ 0x00FF)) = true := by
      obtain hb | hb := hb <;> simp [hb]
    simp only [hr, if_neg hov]

theorem busWrite_cart {s : State} {a : Word} (hr : region a = .cartRam ∨ region a = .rom) (v : Byte) :
    busWrite a v s = cartStore a v s := by
  unfold busWrite
  obtain hr | hr := hr <;> rw [hr]

theorem cartRead_noBanking {c : Cart} {n : Nat} (hc : c.variant = .noBanking) (hn : n ≤ 0x7FFF) :
    cartRead c n = some (c.rom.read n) := by simp [cartRead, hc, hn]

theorem cartWrite_noBanking {c : Cart} {n : Nat} (hc : c.variant = .noBanking) (hn : n ≤ 0x7FFF) (v : Byte) :
    cartWrite c n v = some c := by simp [cartWrite, hc, hn]

/-- Settles O25, from the bus's reads and writes of the cartridge's ranges. -/
theorem overlayAndCartridgeAccesses : Obligations.OverlayAndCartridgeAccesses := by
  refine ⟨fun s a ha hb => ?_, fun s a ha hb hc => ?_, fun s a v ha hc => ?_, fun s a v ha => ⟨fun hb => ?_, ?_⟩⟩
  · have hr : region a = .rom := region_eq_iff.2 ⟨Nat.zero_le _, Nat.le_trans ha (by decide)⟩
    simp [busPeek, hr, hb, ha]
  · rw [busPeek_cart (region_of_cart (.inr ha)) hb, cartRead_noBanking hc ha]
  · rw [busWrite_cart (region_of_cart (.inr ha)), cartStore, cartWrite_noBanking hc ha]; rfl
  · have hio : a ≠ 0xFF00 := by rintro rfl; simp at ha
    have hp := busPeek_cart (region_of_cart ha) hb
    cases hv : cartRead s.cart a.toNat with
    | some b => exact busRead_eq_ok hio (hp.trans hv)
    | none => exact busRead_of_none (hp.trans hv)
  · rw [busWrite_cart (region_of_cart ha)]; rfl

/-! ## Unmapped addresses -/

/-- An address that no region and no I/O register answers (R67). -/
def Unmapped (a : Word) : Prop :=
  (0xFEA0 ≤ a.toNat ∧ a.toNat ≤ 0xFEFF) ∨ (0xFF01 ≤ a.toNat ∧ a.toNat ≤ 0xFF03) ∨
    (0xFF08 ≤ a.toNat ∧ a.toNat ≤ 0xFF0E) ∨ (0xFF10 ≤ a.toNat ∧ a.toNat ≤ 0xFF3F) ∨
    (0xFF4C ≤ a.toNat ∧ a.toNat ≤ 0xFF4F) ∨ (0xFF51 ≤ a.toNat ∧ a.toNat ≤ 0xFF7F)

theorem Unmapped.region {a : Word} (h : Unmapped a) : region a = .hole ∨ region a = .io :=
  h.imp region_eq_iff.2 fun h => region_eq_iff.2 (by simp only [Region.first, Region.last]; omega)

theorem Unmapped.ioRead_eq {a : Word} (h : Unmapped a) (s : State) : ioRead s a = unmappedRead s := by
  unfold Unmapped at h
  unfold ioRead
  split <;> first | rfl | omega

theorem Unmapped.ioWrite_eq {a : Word} (h : Unmapped a) (v : Byte) (s : State) : ioWrite a v s = unmappedWrite a s := by
  unfold Unmapped at h
  unfold ioWrite
  split <;> first | rfl | omega

theorem Unmapped.busPeek_eq {a : Word} (h : Unmapped a) (s : State) : busPeek true s a = unmappedRead s := by
  unfold busPeek
  obtain hr | hr := h.region
  · rw [hr]
  · rw [hr, ← h.ioRead_eq]

theorem Unmapped.busWrite_eq {a : Word} (h : Unmapped a) (v : Byte) (s : State) :
    busWrite a v s = unmappedWrite a s := by
  unfold busWrite
  obtain hr | hr := h.region
  · rw [hr]
  · rw [hr, ← h.ioWrite_eq v]

/-- Settles O26, by the policy. -/
theorem unmappedAddressesFollowThePolicy : Obligations.UnmappedAddressesFollowThePolicy := by
  intro s a v h
  change Unmapped a at h
  have hio : a ≠ 0xFF00 := by rintro rfl; simp [Unmapped] at h
  have hp := h.busPeek_eq s
  rw [h.busWrite_eq v]
  refine ⟨fun hs => ?_, fun hf => ?_⟩
  · rw [unmappedRead, hs] at hp
    exact ⟨busRead_eq_ok hio hp, by rw [unmappedWrite, hs]⟩
  · rw [unmappedRead, hf] at hp
    exact ⟨busRead_of_none hp, by rw [unmappedWrite, hf]; rfl⟩

end Sys2Proof.Machine
end

section
/-! PROOFS. What each I/O register reads as and stores (20_memory.md R63 to R66, R68, R69). -/

namespace Sys2Proof.Machine

/-- TAC's and IF's unused bits read as 1 (R63, R68). -/
theorem tacRead_eq (t : BitVec 3) : BitVec.ofNat 8 (0xF8 + t.toNat) = 0xF8 ||| t.setWidth 8 := by revert t; decide

theorem ifRead_eq (f : BitVec 5) : BitVec.ofNat 8 (0xE0 + f.toNat) = 0xE0 ||| f.setWidth 8 := by revert f; decide

theorem statRead_eq (p : Ppu) : statRead p = (0x80 ||| (p.statSel.setWidth 8 <<< 3) |||
    (if p.line = p.lyc then 0x04 else 0) |||
    (match p.mode with | .hBlank => 0 | .vBlank => 1 | .oamScan => 2 | .pixelTransfer => 3)) := by
  have h : ∀ (sel : BitVec 4) (b : Bool) (m : Mode),
      BitVec.ofNat 8 (0x80 + sel.toNat * 8 + bit b * 4 + modeNumber m) = 0x80 ||| (sel.setWidth 8 <<< 3) |||
        (if b = true then 0x04 else 0) ||| BitVec.ofNat 8 (modeNumber m) := by
    intro sel b m
    revert sel; cases b <;> cases m <;> decide
  rw [statRead, h]
  simp only [beq_iff_eq]
  cases p.mode <;> rfl

theorem extractLsb'_three_eq_ofNat (v : Byte) (n : Nat) : v.extractLsb' 3 n = BitVec.ofNat n (v.toNat / 8) := by
  simp [BitVec.extractLsb', Nat.shiftRight_eq_div_pow]

theorem disableBoot_eq (s : State) (v : Byte) :
    (if v = 0 then s else s.disableBoot) = { s with bootDisabled := s.bootDisabled || decide (v ≠ 0) } := by
  by_cases h : v = 0
  · rw [if_pos h, decide_eq_false (not_not.2 h), Bool.or_false]
  · rw [if_neg h, decide_eq_true h, Bool.or_true]; rfl

/-- Settles O27, register by register. -/
theorem ioRegistersReadAndWrite : Obligations.IoRegistersReadAndWrite := by
  intro s v
  refine ⟨⟨?_, rfl, rfl, ?_, ?_, rfl, ?_, rfl, rfl, rfl, rfl, rfl, rfl, rfl, rfl, rfl, rfl, rfl, rfl⟩, ⟨_, rfl⟩, rfl,
    rfl, rfl, rfl, rfl, rfl, rfl, ?_, rfl, rfl, rfl, rfl, rfl, rfl, rfl, rfl, rfl, ?_, rfl⟩
  · rw [← hi_eq_ofNat]; rfl
  · rw [← tacRead_eq]; rfl
  · rw [← ifRead_eq]; rfl
  · exact congrArg (Access.ok · s) (statRead_eq s.ppu)
  · rw [← extractLsb'_three_eq_ofNat]; rfl
  · rw [← disableBoot_eq]; rfl

end Sys2Proof.Machine
end

section
/-! PROOFS. The OAM DMA copy, byte by byte (20_memory.md R72). -/

namespace Sys2Proof.Machine

/-- The address of the `i`-th byte that a DMA copy reads. -/
theorem dmaSource_toNat (page : Byte) {i : Nat} (hi : i < 256) :
    (word page (BitVec.ofNat 8 i)).toNat = 256 * page.toNat + i := by
  rw [word_toNat, BitVec.toNat_ofNat, Nat.mod_eq_of_lt hi]

theorem dmaSource_eq_ofNat (page : Byte) {i : Nat} (hi : i < 256) :
    word page (BitVec.ofNat 8 i) = BitVec.ofNat 16 (256 * page.toNat + i) := by
  rw [← dmaSource_toNat page hi, BitVec.ofNat_toNat, BitVec.setWidth_eq]

theorem ramKey_le (a : Word) : ramKey a ≤ a.toNat := by
  fun_cases ramKey a
  · exact Nat.sub_le _ _
  · exact le_rfl

/-- The `i`-th source byte is kept below OAM, or not before the `i`-th byte of OAM: the bytes copied before it are
not in its way. -/
theorem dmaSource_key (page : Byte) {i : Nat} (hi : i < 160) :
    ramKey (word page (BitVec.ofNat 8 i)) < 0xFE00 ∨ 0xFE00 + i ≤ ramKey (word page (BitVec.ofNat 8 i)) := by
  have ha := dmaSource_toNat page (i := i) (by omega)
  by_cases hp : page.toNat < 0xFE
  · exact .inl (Nat.lt_of_le_of_lt (ramKey_le _) (by omega))
  · have hr : region (word page (BitVec.ofNat 8 i)) ≠ .echo := fun hr => by
      obtain ⟨-, hle⟩ := region_eq_iff.1 hr
      change _ ≤ 0xFDFF at hle
      omega
    rw [ramKey_of_ne_echo hr]; omega

/-- The state in which the first `n` bytes are copied, and nothing else of `s` has changed but the count of joypad
draws, which a source read of 0xFF00, the first of page 0xFF, moves. -/
structure DmaCopied (src : Nat → Byte) (s : State) (n : Nat) (t : State) : Prop where
  eq : t = { s with ram := t.ram, joypadDraws := t.joypadDraws }
  wf : t.ram.wf = true
  copied : ∀ i < n, t.ram.read (0xFE00 + i) = src i
  kept : ∀ k, k < 0xFE00 ∨ 0xFE00 + n ≤ k → t.ram.read k = s.ram.read k
  draws : n = 0 → t.joypadDraws = s.joypadDraws

namespace DmaCopied

variable {src : Nat → Byte} {s t : State} {n : Nat} {page : Byte}

theorem refl (src : Nat → Byte) {s : State} (h : s.ram.wf = true) : DmaCopied src s 0 s :=
  ⟨rfl, h, fun _ hi => absurd hi (Nat.not_lt_zero _), fun _ _ => rfl, fun _ => rfl⟩

theorem devices (h : DmaCopied src s n t) : DevicesKept s t := by
  rw [h.eq]; exact ⟨rfl, rfl, rfl, rfl, rfl, rfl, rfl⟩

/-- The copy's next read answers as it would have before the copy. -/
theorem peek (h : DmaCopied src s n t) (hn : n < 160) :
    busPeek false t (word page (BitVec.ofNat 8 n)) = busPeek false s (word page (BitVec.ofNat 8 n)) := by
  refine busPeek_congr h.devices false (h.kept _ (dmaSource_key page hn)) fun ha => h.draws ?_
  have hw := dmaSource_toNat page (i := n) (by omega)
  rw [ha] at hw
  change 0xFF00 = _ at hw
  omega

/-- One more byte copied. -/
theorem step (h : DmaCopied src s n t) (hn : n < 160)
    (hsrc : busPeek false s (word page (BitVec.ofNat 8 n)) = some (src n)) (m : Nat) :
    ∃ u, DmaCopied src s (n + 1) u ∧ dmaCopy page (m + 1) n t = dmaCopy page m (n + 1) u := by
  rw [dmaCopy, busReadWith, h.peek hn, hsrc]
  have hram : (afterRead t (word page (BitVec.ofNat 8 n))).ram = t.ram := by simp
  refine ⟨_, ⟨?_, ?_, fun i hi => ?_, fun k hk => ?_, nofun⟩, rfl⟩
  · rw [h.eq]; unfold afterRead; split <;> rfl
  · exact Memory.wf_write _ _ _ (by rw [hram]; exact h.wf)
  · rw [State.setRam_ram, hram]
    by_cases hin : i = n
    · rw [hin, Memory.read_write_self _ _ _ h.wf]
    · rw [Memory.read_write_of_ne _ _ (by omega), h.copied i (by omega)]
  · rw [State.setRam_ram, hram, Memory.read_write_of_ne _ _ (by omega), h.kept k (by omega)]

end DmaCopied

/-- While the source bytes can be read, the copy goes on (by induction on the bytes copied). -/
theorem dmaCopy_readable {src : Nat → Byte} {s : State} (page : Byte) (hwf : s.ram.wf = true) {n : Nat} (hn : n ≤ 160)
    (hsrc : ∀ i < n, busPeek false s (word page (BitVec.ofNat 8 i)) = some (src i)) :
    ∃ t, DmaCopied src s n t ∧ dmaCopy page 160 0 s = dmaCopy page (160 - n) n t := by
  induction n with
  | zero => exact ⟨s, .refl src hwf, rfl⟩
  | succ n ih =>
    obtain ⟨t, ht, hc⟩ := ih (by omega) fun i hi => hsrc i (by omega)
    obtain ⟨u, hu, hs⟩ := ht.step (by omega) (hsrc n (by omega)) (160 - (n + 1))
    refine ⟨u, hu, ?_⟩
    rw [hc, ← hs]
    congr 1
    omega

/-- Settles O28: the copy of the readable bytes, and what it does at the first one that cannot be read. -/
theorem dmaCopiesOneHundredSixtyBytes : Obligations.DmaCopiesOneHundredSixtyBytes := by
  intro s page src n hwf hn after addr hsrc
  have haddr : ∀ i < 160, word page (BitVec.ofNat 8 i) = addr i := fun i hi => dmaSource_eq_ofNat page (by omega)
  obtain ⟨t, ht, hc⟩ := dmaCopy_readable (s := after) page hwf hn fun i hi => by
    rw [haddr i (by omega), hsrc i hi]
  have hw : busWrite 0xFF46 page s = dmaCopy page (160 - n) n t := hc
  refine ⟨fun h160 => ?_, fun hlt hnone => ?_⟩
  · subst h160
    exact ⟨t, hw, ht.eq, ht.copied, ht.kept⟩
  · obtain ⟨m, hm⟩ : ∃ m, 160 - n = m + 1 := ⟨159 - n, by omega⟩
    rw [hw, hm, dmaCopy, busReadWith, ht.peek hlt, haddr n hlt, hnone]
    refine ⟨_, rfl, ?_, ht.copied, ht.kept⟩
    rw [ht.eq]; rfl

end Sys2Proof.Machine
end

section
/-! PROOFS. What an instruction does to the bus, said once: it runs as a sequence of reads, stores to its store addresses
and changes of the CPU's own state, which ends with its cost or ends the run. -/

namespace Sys2Proof.Machine

/-! ## Sequences that store to given addresses -/

/-- `t` is `s` but for registers and control state: no memory, device, count or outcome. -/
def OnlyCpu (s t : State) : Prop :=
  t = { s with regs := t.regs, sp := t.sp, pc := t.pc, halted := t.halted, stopped := t.stopped, ime := t.ime,
               eiPending := t.eiPending }

/-- The outcome after a sequence: as before, or the record of what ended the run. -/
def Access.OutcomeFrom {α : Type} (s : State) : Access α → Prop
  | .ok _ t => t.outcome = s.outcome
  | .stop t => t.outcome ≠ .running

/-- More store addresses allow more. -/
theorem RamDiff.mono {as bs : List Word} {s t : State} (h : RamDiff as s t) (hs : ∀ a ∈ as, a ∈ bs) : RamDiff bs s t :=
  fun k hk => (h k hk).imp (fun ⟨a, ha, hp⟩ => ⟨a, hs a ha, hp⟩) fun ⟨ha, hp⟩ => ⟨hs _ ha, hp⟩

/-- From `s` on, a sequence stores to addresses of `stores` at most. -/
structure StoresTo {α : Type} (stores : List Word) (s : State) (x : Access α) : Prop where
  kept : Kept s x.after
  ramDiff : RamDiff stores s x.after
  bus : stores = [] → DevicesKept s x.after ∧ x.after.ram = s.ram
  busy : x.after.busy = s.busy
  outcome : x.OutcomeFrom s

namespace StoresTo

variable {α β : Type} {st : List Word} {s t : State}

theorem cpu {a : α} (h : OnlyCpu s t) : StoresTo st s (.ok a t) := by
  rw [h]
  exact ⟨.of_eq rfl rfl rfl rfl rfl rfl rfl rfl, .of_ram_eq rfl, fun _ => ⟨⟨rfl, rfl, rfl, rfl, rfl, rfl, rfl⟩, rfl⟩,
    rfl, rfl⟩

theorem bind {x : Access α} {k : α → State → Access β} (h : StoresTo st s x)
    (hk : ∀ a t, x = .ok a t → StoresTo st t (k a t)) : StoresTo st s (x.bind k) := by
  cases x with
  | stop t => exact ⟨h.kept, h.ramDiff, h.bus, h.busy, h.outcome⟩
  | ok a t =>
    have h' := hk a t rfl
    rw [Access.bind_ok]
    generalize k a t = y at h'
    refine ⟨h.kept.trans h'.kept, (h.ramDiff.trans h.kept h'.ramDiff).mono (by simp), fun hst => ?_,
      h'.busy.trans h.busy, ?_⟩
    · exact ⟨(h.bus hst).1.trans (h'.bus hst).1, (h'.bus hst).2.trans (h.bus hst).2⟩
    · cases y with
      | ok b u => exact Eq.trans h'.outcome h.outcome
      | stop u => exact h'.outcome

/-- A change of the CPU's own state before a sequence. -/
theorem after_cpu {x : Access β} (h : OnlyCpu s t) (hx : StoresTo st t x) : StoresTo st s x :=
  (cpu (a := ()) h).bind (k := fun _ _ => x) fun _ _ he => by cases he; exact hx

end StoresTo

theorem Access.Tame.outcomeFrom {α : Type} {s : State} {x : Access α} (h : x.Tame s) : x.OutcomeFrom s := by
  cases h with
  | ok _ _ _ ho => exact ho
  | stop _ _ _ _ ho => exact fun hr => by cases ho.symm.trans hr

section
variable {st : List Word}

theorem busRead_storesTo (a : Word) (s : State) : StoresTo st s (busRead a s) := by
  have h := busRead_tame a s
  obtain ⟨hram, hcart, hie, hif, htimer, hppu, hboot⟩ := busReadWith_after true a s
  exact ⟨h.kept, .of_ram_eq hram, fun _ => ⟨⟨hcart, hboot, hif, hie, htimer, hppu, h.kept.params⟩, hram⟩, h.cpu.busy,
    h.outcomeFrom⟩

theorem busWrite_storesTo {a : Word} (ha : a ∈ st) (v : Byte) (s : State) : StoresTo st s (busWrite a v s) := by
  have h := busWrite_tame a v s
  refine ⟨h.kept, (busWrite_ramDiff a v s).mono fun b hb => ?_, fun hst => ?_, h.cpu.busy, h.outcomeFrom⟩
  · rwa [List.mem_singleton.1 hb]
  · subst hst; cases ha

theorem readR8_storesTo (x : R8) (s : State) : StoresTo st s (readR8 x s) := by
  cases x with
  | reg r => exact .cpu rfl
  | indHl => exact busRead_storesTo _ s

theorem set8_onlyCpu (s : State) (r : Reg8) (v : Byte) : OnlyCpu s (s.set8 r v) := by cases r <;> rfl

theorem set16_onlyCpu (s : State) (rr : Reg16) (v : Word) : OnlyCpu s (s.set16 rr v) := by cases rr <;> rfl

theorem setStk_onlyCpu (s : State) (rr : RegStk) (v : Word) : OnlyCpu s (s.setStk rr v) := by cases rr <;> rfl

theorem applyAlu_onlyCpu (s : State) (op : AluOp) (b : Byte) : OnlyCpu s (s.applyAlu op b) := by cases op <;> rfl

/-- A read-modify-write stores to the address it reads: a read moves no register (R93). -/
theorem readWriteR8_storesTo {x : R8} {s t : State} {v : Byte} (hx : x = .indHl → s.hl ∈ st) (h : readR8 x s = .ok v t)
    (w : Byte) : StoresTo st t (writeR8 x w t) := by
  have hc := (readR8_tame x s).cpu
  rw [h, Access.after_ok] at hc
  cases x with
  | reg r => exact .cpu (set8_onlyCpu t r w)
  | indHl =>
    refine busWrite_storesTo ?_ w t
    have hhl : t.hl = s.hl := by rw [State.hl, State.hl, hc.regs]
    rw [hhl]; exact hx rfl

theorem push16_storesTo {s : State} (h1 : s.sp - 1 ∈ st) (h2 : s.sp - 2 ∈ st) (v : Word) :
    StoresTo st s (push16 v s) := by
  refine .after_cpu (t := s.setSp (s.sp - 1)) rfl ((busWrite_storesTo h1 _ _).bind fun _ t ht => ?_)
  have hc := (busWrite_tame (s.sp - 1) (hi v) (s.setSp (s.sp - 1))).cpu
  rw [ht, Access.after_ok] at hc
  have hsp : t.sp - 1 = s.sp - 2 := by rw [hc.sp, State.setSp_sp]; bv_omega
  exact .after_cpu (t := t.setSp (t.sp - 1)) rfl (busWrite_storesTo (hsp ▸ h2) _ _)

theorem pop16_storesTo (s : State) : StoresTo st s (pop16 s) :=
  (busRead_storesTo _ s).bind fun _ t _ => .after_cpu (t := t.setSp (t.sp + 1)) rfl
    ((busRead_storesTo _ _).bind fun _ _ _ => .cpu rfl)

theorem callTo_storesTo {s : State} (h1 : s.sp - 1 ∈ st) (h2 : s.sp - 2 ∈ st) (target : Word) :
    StoresTo st s (callTo target s) := (push16_storesTo h1 h2 _).bind fun _ _ _ => .cpu rfl

theorem popPc_storesTo (s : State) : StoresTo st s (popPc s) := (pop16_storesTo s).bind fun _ _ _ => .cpu rfl

theorem returnFromInterrupt_storesTo (s : State) : StoresTo st s (returnFromInterrupt s) :=
  (pop16_storesTo s).bind fun _ t _ => .cpu (by cases t.params.retiMode <;> rfl)

end

/-! ## The instructions -/

/-- `r` is a sequence that stores to `stores` at most, ended with a cost in the range of 92_eei_decisions.md D37. -/
def Runs (stores : List Word) (s : State) (r : Result) : Prop :=
  ∃ (x : Access Unit) (cost : Nat), r = x.finish cost ∧ (1 ≤ cost ∧ cost ≤ 6) ∧ StoresTo stores s x

section
variable {st : List Word} {s t : State} {c : Nat}

theorem StoresTo.finish {x : Access Unit} (h : StoresTo st s x) (hc : 1 ≤ c ∧ c ≤ 6) : Runs st s (x.finish c) :=
  ⟨x, c, rfl, hc, h⟩

theorem OnlyCpu.done (h : OnlyCpu s t) (hc : 1 ≤ c ∧ c ≤ 6) : Runs st s (done c t) := ⟨.ok () t, c, rfl, hc, .cpu h⟩

/-- An instruction that ends the run without an access (R253, R257). -/
theorem runs_stop {o : RunOutcome} (h : OnlyCpu s t) (ho : o ≠ .running) : Runs st s (.next (t.setOutcome o)) := by
  have hs : StoresTo st s (.ok () t) := .cpu h
  exact ⟨.stop (t.setOutcome o), 1, rfl, by decide, hs.kept.trans (t.setOutcome_kept o), hs.ramDiff.congr_right rfl,
    fun hst => ⟨(hs.bus hst).1.trans ⟨rfl, rfl, rfl, rfl, rfl, rfl, rfl⟩, (hs.bus hst).2⟩, hs.busy, ho⟩

theorem prefixedCost_range {x : R8} {m n : Nat} (hm : 1 ≤ m ∧ m ≤ 6) (hn : 1 ≤ n ∧ n ≤ 6) :
    1 ≤ prefixedCost x m n ∧ prefixedCost x m n ≤ 6 := by
  cases x with
  | reg r => exact hm
  | indHl => exact hn

theorem stepR8_runs (f : Byte → Bool → Flagged) {x : R8} (hx : x = .indHl → s.hl ∈ st) (hc : 1 ≤ c ∧ c ≤ 6) :
    Runs st s (stepR8 f x c s) := by
  refine StoresTo.finish ((readR8_storesTo x s).bind fun v t ht => ?_) hc
  exact (readWriteR8_storesTo hx ht _).bind fun _ _ _ => .cpu rfl

theorem jumpIf_runs {b : Bool} {target : Word} {m n : Nat} (hm : 1 ≤ m ∧ m ≤ 6) (hn : 1 ≤ n ∧ n ≤ 6) :
    Runs st s (jumpIf b target m n s) := by
  cases b with
  | false => exact OnlyCpu.done rfl hm
  | true => exact OnlyCpu.done rfl hn

theorem callIf_runs {b : Bool} (hb : b = true → s.sp - 1 ∈ st ∧ s.sp - 2 ∈ st) {target : Word} {m n : Nat}
    (hm : 1 ≤ m ∧ m ≤ 6) (hn : 1 ≤ n ∧ n ≤ 6) : Runs st s (callIf b target m n s) := by
  cases b with
  | false => exact OnlyCpu.done rfl hm
  | true => exact (callTo_storesTo (hb rfl).1 (hb rfl).2 target).finish hn

theorem returnIf_runs {b : Bool} {m n : Nat} (hm : 1 ≤ m ∧ m ≤ 6) (hn : 1 ≤ n ∧ n ≤ 6) :
    Runs st s (returnIf b m n s) := by
  cases b with
  | false => exact OnlyCpu.done rfl hm
  | true => exact (popPc_storesTo s).finish hn

theorem execStop_runs (b : Byte) : Runs st s (execStop b s) := by
  unfold execStop
  split
  · exact runs_stop rfl nofun
  · exact OnlyCpu.done rfl (by decide)

end

theorem Shape.run_runs (x : Shape) (hc : x.costInRange = true) (s : State) : Runs (x.stores s) s (x.run s) := by
  cases x with
  | ld dst r => exact (set8_onlyCpu s dst _).done (by decide)
  | ldImm dst n => exact (set8_onlyCpu s dst n).done (by decide)
  | load dst a c =>
    exact StoresTo.finish ((busRead_storesTo _ s).bind fun _ t _ => .cpu (set8_onlyCpu t dst _)) (of_decide_eq_true hc)
  | store a v c => exact (busWrite_storesTo (.head _) _ s).finish (of_decide_eq_true hc)
  | storeMove d =>
    exact StoresTo.finish ((busWrite_storesTo (.head _) _ s).bind fun _ _ _ => .cpu rfl) (by decide)
  | loadMove d => exact StoresTo.finish ((busRead_storesTo _ s).bind fun _ _ _ => .cpu rfl) (by decide)
  | ld16 rr nn => exact (set16_onlyCpu s rr nn).done (by decide)
  | storeSp nn =>
    refine StoresTo.finish ((busWrite_storesTo (.head _) _ s).bind fun _ t _ => ?_) (by decide)
    exact busWrite_storesTo (.tail _ (.head _)) _ t
  | ldSpHl => exact OnlyCpu.done rfl (by decide)
  | push rr => exact (push16_storesTo (.head _) (.tail _ (.head _)) _).finish (by decide)
  | pop rr =>
    exact StoresTo.finish ((pop16_storesTo s).bind fun v t _ => .cpu (setStk_onlyCpu t rr v)) (by decide)
  | alu op x =>
    refine StoresTo.finish ((readR8_storesTo x s).bind fun v t _ => ?_) (prefixedCost_range (by decide) (by decide))
    exact .cpu (applyAlu_onlyCpu t op v)
  | aluImm op n => exact (applyAlu_onlyCpu s op n).done (by decide)
  | inc x => exact stepR8_runs _ (by rintro rfl; exact .head _) (prefixedCost_range (by decide) (by decide))
  | dec x => exact stepR8_runs _ (by rintro rfl; exact .head _) (prefixedCost_range (by decide) (by decide))
  | daa => exact OnlyCpu.done rfl (by decide)
  | cpl => exact OnlyCpu.done rfl (by decide)
  | scf => exact OnlyCpu.done rfl (by decide)
  | ccf => exact OnlyCpu.done rfl (by decide)
  | addHl rr => exact OnlyCpu.done rfl (by decide)
  | inc16 rr => exact (set16_onlyCpu s rr _).done (by decide)
  | dec16 rr => exact (set16_onlyCpu s rr _).done (by decide)
  | addSp e => exact OnlyCpu.done rfl (by decide)
  | ldHlSp e => exact OnlyCpu.done rfl (by decide)
  | rotA op => exact OnlyCpu.done rfl (by decide)
  | shift op x =>
    refine StoresTo.finish ((readR8_storesTo x s).bind fun v t ht => ?_) (prefixedCost_range (by decide) (by decide))
    exact (readWriteR8_storesTo (by rintro rfl; exact .head _) ht _).bind fun _ _ _ => .cpu rfl
  | bit n x =>
    refine StoresTo.finish ((readR8_storesTo x s).bind fun v t _ => ?_) (prefixedCost_range (by decide) (by decide))
    exact .cpu rfl
  | res n x =>
    refine StoresTo.finish ((readR8_storesTo x s).bind fun v t ht => ?_) (prefixedCost_range (by decide) (by decide))
    exact readWriteR8_storesTo (by rintro rfl; exact .head _) ht _
  | set n x =>
    refine StoresTo.finish ((readR8_storesTo x s).bind fun v t ht => ?_) (prefixedCost_range (by decide) (by decide))
    exact readWriteR8_storesTo (by rintro rfl; exact .head _) ht _
  | jr e => exact OnlyCpu.done rfl (by decide)
  | jrIf cc e => exact jumpIf_runs (by decide) (by decide)
  | jp nn => exact OnlyCpu.done rfl (by decide)
  | jpIf cc nn => exact jumpIf_runs (by decide) (by decide)
  | jpHl => exact OnlyCpu.done rfl (by decide)
  | call nn => exact (callTo_storesTo (.head _) (.tail _ (.head _)) nn).finish (by decide)
  | callIf cc nn =>
    refine callIf_runs (fun hb => ?_) (by decide) (by decide)
    rw [Shape.stores, if_pos hb]
    exact ⟨.head _, .tail _ (.head _)⟩
  | rst t => exact (callTo_storesTo (.head _) (.tail _ (.head _)) t).finish (by decide)
  | ret => exact (popPc_storesTo s).finish (by decide)
  | retIf cc => exact returnIf_runs (by decide) (by decide)
  | reti => exact (returnFromInterrupt_storesTo s).finish (by decide)
  | nop => exact OnlyCpu.done rfl (by decide)
  | stop => exact execStop_runs 0
  | halt => exact OnlyCpu.done rfl (by decide)
  | di => exact OnlyCpu.done rfl (by decide)
  | ei => exact OnlyCpu.done rfl (by decide)
  | undefined op => exact runs_stop rfl nofun

/-- Every instruction runs as a sequence that stores to its store addresses at most. -/
theorem exec_runs (i : Instr) (s : State) : Runs (storeAddresses i s) s (exec i s) := by
  rw [storeAddresses_eq, exec_eq]
  exact (shape i).run_runs (shape_costInRange i) s

/-- What holds of any state that an instruction leaves. -/
theorem exec_bus {i : Instr} {s t : State} (h : exec i s = .next t) :
    Kept s t ∧ RamDiff (storeAddresses i s) s t ∧ (storeAddresses i s = [] → DevicesKept s t ∧ t.ram = s.ram) := by
  obtain ⟨x, c, hx, -, hs⟩ := exec_runs i s
  rw [hx] at h
  cases x with
  | ok u t' =>
    cases h
    exact ⟨hs.kept.trans (t'.setBusy_kept c), hs.ramDiff.congr_right rfl, fun hst =>
      ⟨(hs.bus hst).1.trans ⟨rfl, rfl, rfl, rfl, rfl, rfl, rfl⟩, (hs.bus hst).2⟩⟩
  | stop t' => cases h; exact ⟨hs.kept, hs.ramDiff, hs.bus⟩

/-- Settles O16: what `RamDiff` allows, and a read that reaches RAM sees its own byte alone. -/
theorem instructionsChangeOnlyTheRamTheyStoreTo : Obligations.InstructionsChangeOnlyTheRamTheyStoreTo := by
  intro i s t h
  obtain ⟨hk, hd, -⟩ := exec_bus h
  refine ⟨hd, fun b hb hst hoam => ?_⟩
  rw [busPeek_of_plainRam hb, busPeek_of_plainRam ((plainRam_of_kept hk b).trans hb)]
  refine congrArg some (not_not.1 fun hne => ?_)
  obtain ⟨a, ha, hp, hr⟩ | ⟨ha, hlo, hhi⟩ := hd _ hne
  · exact hst a ha hp hr
  · have := ramKey_of_ne_oam (hoam ha)
    omega

/-- Settles O17: with no store address the devices and RAM are kept, which is all a read depends on. -/
theorem instructionsThatStoreNothingKeepTheBus : Obligations.InstructionsThatStoreNothingKeepTheBus := by
  intro i s t h hst
  obtain ⟨-, -, hb⟩ := exec_bus h
  obtain ⟨hd, hram⟩ := hb hst
  exact ⟨⟨hram, hd.cart, hd.boot, hd.ifReg, hd.ie, hd.timer, hd.ppu, hd.params⟩,
    fun a ha => busPeek_congr hd true (by rw [hram]) fun h => absurd h ha⟩

/-- Settles O18, from how the instruction's sequence ends. -/
theorem instructionsNeverStepTheDevices : Obligations.InstructionsNeverStepTheDevices := by
  intro i s
  obtain ⟨x, c, hx, hc, hs⟩ := exec_runs i s
  obtain ⟨t, ht, -⟩ := x.finish_next c
  have h : exec i s = .next t := hx.trans ht
  obtain ⟨hk, -, -⟩ := exec_bus h
  refine ⟨t, h, hk.mode, hk.modeClock, hk.line, hk.framebuffer, hk.clock, hk.joypadMoves, hk.frameBit, hk.params, ?_⟩
  cases x with
  | ok u t' => cases ht; exact .inl ⟨hs.outcome, hc⟩
  | stop t' => cases ht; exact .inr ⟨hs.outcome, hs.busy⟩

end Sys2Proof.Machine
end

section
/-! PROOFS. Decoding and encoding (30_encoding.md): which block of the map an opcode byte lies in, what the instructions
of each block are encoded as, and from that the two round trips. -/

namespace Sys2Proof

/-! ## The opcode byte made of its fields -/

/-- The opcode byte with the fields x, y, z (R90). -/
def opcode (x : Nat) (y z : Oct) : Byte := BitVec.ofNat 8 (64 * x + 8 * y.val + z.val)

theorem Oct.val_lt (y : Oct) : y.val < 8 := by cases y <;> decide

theorem Oct.val_injective : Function.Injective Oct.val :=
  Function.LeftInverse.injective (g := Oct.ofBits) fun y => by cases y <;> rfl

section
variable {x : Nat} (hx : x < 4) (y z : Oct)
include hx

theorem opcode_toNat : (opcode x y z).toNat = 64 * x + 8 * y.val + z.val := by
  have hy := y.val_lt
  have hz := z.val_lt
  rw [opcode, BitVec.toNat_ofNat]; omega

theorem fieldX_opcode : fieldX (opcode x y z) = x := by
  have hy := y.val_lt
  have hz := z.val_lt
  rw [fieldX, opcode_toNat hx]; omega

theorem fieldY_opcode : fieldY (opcode x y z) = y := by
  have hy := y.val_lt
  have hz := z.val_lt
  apply Oct.val_injective
  rw [fieldY, Oct.val_ofBits, opcode_toNat hx]; omega

theorem fieldZ_opcode : fieldZ (opcode x y z) = z := by
  have hz := z.val_lt
  apply Oct.val_injective
  rw [fieldZ, Oct.val_ofBits, opcode_toNat hx]; omega

end

theorem opcode_fields (op : Byte) : opcode (fieldX op) (fieldY op) (fieldZ op) = op :=
  have hx := Machine.fieldX_lt op
  eq_of_fields (fieldX_opcode hx _ _) (fieldY_opcode hx _ _) (fieldZ_opcode hx _ _)

/-- Every byte is in one of the four blocks of its map (R98, R99). -/
theorem opcode_cases {motive : Byte → Prop} (x0 : ∀ y z, motive (opcode 0 y z))
    (x1 : ∀ y z, motive (opcode 1 y z)) (x2 : ∀ y z, motive (opcode 2 y z))
    (x3 : ∀ y z, motive (opcode 3 y z)) (op : Byte) : motive op := by
  have hx := Machine.fieldX_lt op
  rw [← opcode_fields op]
  generalize fieldX op = x at hx ⊢
  interval_cases x
  · exact x0 _ _
  · exact x1 _ _
  · exact x2 _ _
  · exact x3 _ _

/-! ## The blocks of the two maps -/

/-- The primary map decides on every opcode but 0xCB (R98, R254). -/
theorem decodeAt_of_ne {op : Byte} (h : op ≠ 0xCB) (b1 b2 : Byte) : decodeAt op b1 b2 = decodePrimary op b1 b2 :=
  if_neg h

/-- After 0xCB the prefixed map decides (R99, R254). -/
theorem decodeAt_prefix (op2 b2 : Byte) : decodeAt 0xCB op2 b2 = decodePrefixed op2 := if_pos rfl

theorem opcode_ne_prefix {x : Nat} (hx : x < 4) (y : Oct) {z : Oct} (h : x ≠ 3 ∨ z ≠ .i3) :
    opcode x y z ≠ 0xCB := by
  intro he
  have h3 : x = 3 := by rw [← fieldX_opcode hx y z, he]; rfl
  have hz : z = .i3 := by rw [← fieldZ_opcode hx y z, he]; rfl
  exact h.elim (absurd h3) (absurd hz)

section
variable (y z : Oct) (b1 b2 : Byte)

theorem decodeAt_opcode_zero : decodeAt (opcode 0 y z) b1 b2 = decodeX0 y z b1 b2 := by
  have h : opcode 0 y z ≠ 0xCB := opcode_ne_prefix (by decide) y (.inl (by decide))
  rw [decodeAt_of_ne h, decodePrimary, fieldX_opcode (by decide), fieldY_opcode (by decide), fieldZ_opcode (by decide)]
  rfl

theorem decodeAt_opcode_one : decodeAt (opcode 1 y z) b1 b2 = Instr.ofLd (R8.ofField y) (R8.ofField z) := by
  have h : opcode 1 y z ≠ 0xCB := opcode_ne_prefix (by decide) y (.inl (by decide))
  rw [decodeAt_of_ne h, decodePrimary, fieldX_opcode (by decide), fieldY_opcode (by decide), fieldZ_opcode (by decide)]
  rfl

theorem decodeAt_opcode_two : decodeAt (opcode 2 y z) b1 b2 = Instr.ofAlu (AluOp.ofField y) (R8.ofField z) := by
  have h : opcode 2 y z ≠ 0xCB := opcode_ne_prefix (by decide) y (.inl (by decide))
  rw [decodeAt_of_ne h, decodePrimary, fieldX_opcode (by decide), fieldY_opcode (by decide), fieldZ_opcode (by decide)]
  rfl

theorem decodePrefixed_opcode_zero :
    decodePrefixed (opcode 0 y z) = Instr.ofShift (ShiftOp.ofField y) (R8.ofField z) := by
  rw [decodePrefixed, fieldX_opcode (by decide), fieldY_opcode (by decide), fieldZ_opcode (by decide)]; rfl

theorem decodePrefixed_opcode_one : decodePrefixed (opcode 1 y z) = Instr.ofBit y (R8.ofField z) := by
  rw [decodePrefixed, fieldX_opcode (by decide), fieldY_opcode (by decide), fieldZ_opcode (by decide)]; rfl

theorem decodePrefixed_opcode_two : decodePrefixed (opcode 2 y z) = Instr.ofRes y (R8.ofField z) := by
  rw [decodePrefixed, fieldX_opcode (by decide), fieldY_opcode (by decide), fieldZ_opcode (by decide)]; rfl

theorem decodePrefixed_opcode_three : decodePrefixed (opcode 3 y z) = Instr.ofSet y (R8.ofField z) := by
  rw [decodePrefixed, fieldX_opcode (by decide), fieldY_opcode (by decide), fieldZ_opcode (by decide)]; rfl

variable {y z}

theorem decodeAt_opcode_three (h : opcode 3 y z ≠ 0xCB) : decodeAt (opcode 3 y z) b1 b2 = decodeX3 y z b1 b2 := by
  rw [decodeAt_of_ne h, decodePrimary, fieldX_opcode (by decide), fieldY_opcode (by decide), fieldZ_opcode (by decide)]
  rfl

end

/-! ## What the instructions of each block are encoded as -/

/-- A decoded form with its bytes. -/
structure EncodesAs (i : Instr) (bytes : List Byte) : Prop where
  wellFormed : i.wellFormed = true
  bytes : encode i = bytes

/-- As many of an opcode and the two bytes after it as its length asks for (R103). -/
def ownBytes (op b1 b2 : Byte) : List Byte := [op, b1, b2].take (lengthOf op)

/-- Any two bytes are the bytes of a word operand (R92). -/
theorem exists_word (b1 b2 : Byte) : ∃ nn, lo nn = b1 ∧ hi nn = b2 := ⟨word b2 b1, lo_word b2 b1, hi_word b2 b1⟩

theorem decodeX0_encodesAs (y z : Oct) (b1 b2 : Byte) :
    EncodesAs (decodeX0 y z b1 b2) (ownBytes (opcode 0 y z) b1 b2) := by
  obtain ⟨nn, rfl, rfl⟩ := exists_word b1 b2
  unfold decodeX0
  rw [word_hi_lo]
  cases z <;> cases y <;> exact ⟨rfl, rfl⟩

/-- 0xCB (y = 1, z = 3) is the one opcode that the primary map alone does not decode (R254). -/
theorem decodeX3_encodesAs {y z : Oct} (h : opcode 3 y z ≠ 0xCB) (b1 b2 : Byte) :
    EncodesAs (decodeX3 y z b1 b2) (ownBytes (opcode 3 y z) b1 b2) := by
  obtain ⟨nn, rfl, rfl⟩ := exists_word b1 b2
  unfold decodeX3
  rw [word_hi_lo]
  cases z
  case i3 =>
    cases y
    case i1 => exact absurd rfl h
    all_goals exact ⟨rfl, rfl⟩
  all_goals cases y <;> exact ⟨rfl, rfl⟩

section
variable (y z : Oct)

theorem ofLd_encodesAs (b1 b2 : Byte) :
    EncodesAs (Instr.ofLd (R8.ofField y) (R8.ofField z)) (ownBytes (opcode 1 y z) b1 b2) := by
  cases y <;> cases z <;> exact ⟨rfl, rfl⟩

theorem ofAlu_encodesAs (b1 b2 : Byte) :
    EncodesAs (Instr.ofAlu (AluOp.ofField y) (R8.ofField z)) (ownBytes (opcode 2 y z) b1 b2) := by
  cases y <;> cases z <;> exact ⟨rfl, rfl⟩

theorem ofShift_encodesAs :
    EncodesAs (Instr.ofShift (ShiftOp.ofField y) (R8.ofField z)) [0xCB, opcode 0 y z] := by
  cases y <;> cases z <;> exact ⟨rfl, rfl⟩

theorem ofBit_encodesAs : EncodesAs (Instr.ofBit y (R8.ofField z)) [0xCB, opcode 1 y z] := by
  cases y <;> cases z <;> exact ⟨rfl, rfl⟩

theorem ofRes_encodesAs : EncodesAs (Instr.ofRes y (R8.ofField z)) [0xCB, opcode 2 y z] := by
  cases y <;> cases z <;> exact ⟨rfl, rfl⟩

theorem ofSet_encodesAs : EncodesAs (Instr.ofSet y (R8.ofField z)) [0xCB, opcode 3 y z] := by
  cases y <;> cases z <;> exact ⟨rfl, rfl⟩

end

theorem decodePrefixed_encodesAs (op2 : Byte) : EncodesAs (decodePrefixed op2) [0xCB, op2] := by
  induction op2 using opcode_cases with
  | x0 y z => rw [decodePrefixed_opcode_zero]; exact ofShift_encodesAs y z
  | x1 y z => rw [decodePrefixed_opcode_one]; exact ofBit_encodesAs y z
  | x2 y z => rw [decodePrefixed_opcode_two]; exact ofRes_encodesAs y z
  | x3 y z => rw [decodePrefixed_opcode_three]; exact ofSet_encodesAs y z

/-- Whatever an opcode and the two bytes after it decode to is encoded as its own ones of these bytes. -/
theorem decodeAt_encodesAs (op b1 b2 : Byte) : EncodesAs (decodeAt op b1 b2) (ownBytes op b1 b2) := by
  by_cases h : op = 0xCB
  · subst h
    rw [decodeAt_prefix]; exact decodePrefixed_encodesAs b1
  · induction op using opcode_cases with
    | x0 y z => rw [decodeAt_opcode_zero]; exact decodeX0_encodesAs y z b1 b2
    | x1 y z => rw [decodeAt_opcode_one]; exact ofLd_encodesAs y z b1 b2
    | x2 y z => rw [decodeAt_opcode_two]; exact ofAlu_encodesAs y z b1 b2
    | x3 y z => rw [decodeAt_opcode_three _ _ h]; exact decodeX3_encodesAs h b1 b2

/-! ## Lengths -/

theorem lengthOf_pos (op : Byte) : 0 < lengthOf op := by
  unfold lengthOf
  split
  · decide
  · split <;> decide

theorem lengthOf_le_three (op : Byte) : lengthOf op ≤ 3 := by
  unfold lengthOf
  split
  · decide
  · split <;> decide

theorem ownBytes_length (op b1 b2 : Byte) : (ownBytes op b1 b2).length = lengthOf op := by
  rw [ownBytes, List.length_take]; exact Nat.min_eq_left (lengthOf_le_three op)

/-- In a sequence long enough for its first opcode, the opcode's own bytes are the first ones. -/
theorem ownBytes_getD {op : Byte} {tail : List Byte} (h : lengthOf op ≤ (op :: tail).length) :
    ownBytes op (tail.getD 0 0) (tail.getD 1 0) = (op :: tail).take (lengthOf op) := by
  have hl := lengthOf_le_three op
  rw [ownBytes]
  generalize lengthOf op = n at h hl ⊢
  interval_cases n
  · rfl
  · rfl
  · obtain _ | ⟨b1, tail⟩ := tail
    · exact absurd h (by simp)
    · rfl
  · obtain _ | ⟨b1, _ | ⟨b2, tail⟩⟩ := tail
    · exact absurd h (by simp)
    · exact absurd h (by simp)
    · rfl

/-! ## The decoder on a sequence of bytes -/

section
variable {op : Byte} {tail : List Byte}

theorem decode_of_length_lt (h : (op :: tail).length < lengthOf op) :
    decode (op :: tail) = .error (.truncated op (lengthOf op)) := if_pos h

theorem decode_of_length_le (h : lengthOf op ≤ (op :: tail).length) :
    decode (op :: tail) = .ok (decodeBytes (op :: tail), (op :: tail).drop (lengthOf op)) := by
  obtain ⟨n, hn⟩ := Nat.exists_eq_add_one.2 (lengthOf_pos op)
  have hdrop : tail.drop (lengthOf op - 1) = (op :: tail).drop (lengthOf op) := by rw [hn]; rfl
  rw [← hdrop]
  exact if_neg (Nat.not_lt.2 h)

theorem decodeBytes_encodesAs (h : lengthOf op ≤ (op :: tail).length) :
    EncodesAs (decodeBytes (op :: tail)) ((op :: tail).take (lengthOf op)) :=
  ownBytes_getD h ▸ decodeAt_encodesAs op (tail.getD 0 0) (tail.getD 1 0)

end

/-! ## The round trips -/

theorem decodeBytes_two (op b1 : Byte) : decodeBytes [op, b1] = decodeAt op b1 0 := rfl

theorem decodeBytes_three (op b1 b2 : Byte) : decodeBytes [op, b1, b2] = decodeAt op b1 b2 := rfl

/-- An instruction's own bytes decode to it: its opcode names its row, and a word operand is made of its two bytes. -/
theorem decodeBytes_encode {i : Instr} (h : i.wellFormed = true) : decodeBytes (encode i) = i := by
  cases i
  case prefixCb op2 => cases h
  case ldBcD16 nn | ldIndA16Sp nn | ldDeD16 nn | ldHlD16 nn | ldSpD16 nn | jpNzA16 nn | jpA16 nn | callNzA16 nn |
      jpZA16 nn | callZA16 nn | callA16 nn | jpNcA16 nn | callNcA16 nn | jpCA16 nn | callCA16 nn | ldIndA16A nn |
      ldAIndA16 nn =>
    rw [← word_hi_lo nn, encode, lo_word, hi_word, decodeBytes_three]; rfl
  case ldBD8 n | ldCD8 n | stop n | ldDD8 n | jrE8 n | ldED8 n | jrNzE8 n | ldHD8 n | jrZE8 n | ldLD8 n | jrNcE8 n |
      ldIndHlD8 n | jrCE8 n | ldAD8 n | addAD8 n | adcAD8 n | subD8 n | sbcAD8 n | ldhIndA8A n | andD8 n | addSpE8 n |
      xorD8 n | ldhAIndA8 n | orD8 n | ldHlSpE8 n | cpD8 n =>
    rw [encode, decodeBytes_two]; rfl
  all_goals rfl

/-- The encoding begins with an opcode, and is as long as that opcode says (R103). -/
theorem encode_eq_cons {i : Instr} (h : i.wellFormed = true) :
    ∃ op tail, encode i = op :: tail ∧ (encode i).length = lengthOf op := by
  have he := (decodeAt_encodesAs ((encode i).getD 0 0) ((encode i).getD 1 0) ((encode i).getD 2 0)).bytes
  change encode (decodeBytes (encode i)) = _ at he
  rw [decodeBytes_encode h] at he
  generalize (encode i).getD 0 0 = op, (encode i).getD 1 0 = b1, (encode i).getD 2 0 = b2 at he
  refine ⟨op, [b1, b2].take (lengthOf op - 1), ?_, by rw [he, ownBytes_length]⟩
  rw [he, ownBytes]
  obtain ⟨n, hn⟩ := Nat.exists_eq_add_one.2 (lengthOf_pos op)
  rw [hn]; rfl

/-- No two instructions share their bytes. -/
theorem eq_of_encode_eq {i j : Instr} (hi : i.wellFormed = true) (hj : j.wellFormed = true) (h : encode i = encode j) :
    i = j := by
  rw [← decodeBytes_encode hi, h, decodeBytes_encode hj]

/-- Settles O2: what decodes is encoded as the bytes it was read from, and the rest is what follows them. -/
theorem decodeThenEncodeGivesTheBytes : Obligations.DecodeThenEncodeGivesTheBytes := by
  intro bytes rest i h
  cases bytes with
  | nil => cases h
  | cons op tail =>
    obtain hlt | hle := Nat.lt_or_ge (op :: tail).length (lengthOf op)
    · rw [decode_of_length_lt hlt] at h; cases h
    · rw [decode_of_length_le hle] at h; cases h
      have he := decodeBytes_encodesAs hle
      exact ⟨he.wellFormed, by rw [he.bytes, List.take_append_drop]⟩

/-- Settles O1: the bytes decode to an instruction that has the same bytes again, and no two instructions share
theirs. -/
theorem encodeThenDecodeGivesTheInstruction : Obligations.EncodeThenDecodeGivesTheInstruction := by
  intro i rest hi
  obtain ⟨op, tail, hcons, hlen⟩ := encode_eq_cons hi
  have hbytes : encode i ++ rest = op :: (tail ++ rest) := by rw [hcons]; rfl
  have hle : lengthOf op ≤ (op :: (tail ++ rest)).length := by
    rw [← hbytes, ← hlen, List.length_append]; exact Nat.le_add_right _ _
  have he := decodeBytes_encodesAs hle
  rw [← hbytes, ← hlen, List.take_left] at he
  have hdecode : decodeBytes (encode i ++ rest) = i := eq_of_encode_eq he.wellFormed hi he.bytes
  rw [hbytes, decode_of_length_le hle, ← hbytes, hdecode, ← hlen, List.drop_left]

/-! ## The maps in fields, and sample words -/

theorem word_eq_ofNat (h l : Byte) : word h l = BitVec.ofNat 16 (256 * h.toNat + l.toNat) := by
  rw [← word_toNat, BitVec.ofNat_toNat, BitVec.setWidth_eq]

/-- Settles O3: the rows are read off their concrete opcodes, the blocks off the fields. -/
theorem opcodeFieldsSelectTheInstruction : Obligations.OpcodeFieldsSelectTheInstruction := by
  intro y z b1 b2
  rw [← word_eq_ofNat]
  have hne (z : Oct) (hz : z ≠ .i3) : opcode 3 y z ≠ 0xCB := opcode_ne_prefix (by decide) y (.inr hz)
  have hld : Instr.ofLd (R8.ofField y) (R8.ofField z) =
      if y = .i6 ∧ z = .i6 then .halt else Instr.ofLd (R8.ofField y) (R8.ofField z) := by
    split
    · next h => obtain ⟨rfl, rfl⟩ := h; rfl
    · rfl
  refine ⟨rfl, rfl, rfl, rfl, ?x0z4, ?x0z5, ?x0z6, rfl, ?ld, ?alu, rfl, rfl, rfl, rfl, rfl, rfl, ?x3z6, ?x3z7,
    ?shift, ?bit, ?res, ?set⟩
  case x0z4 => exact decodeAt_opcode_zero y .i4 b1 b2
  case x0z5 => exact decodeAt_opcode_zero y .i5 b1 b2
  case x0z6 => exact decodeAt_opcode_zero y .i6 b1 b2
  case ld => exact (decodeAt_opcode_one y z b1 b2).trans hld
  case alu => exact decodeAt_opcode_two y z b1 b2
  case x3z6 => exact decodeAt_opcode_three b1 b2 (hne .i6 (by decide))
  case x3z7 => exact decodeAt_opcode_three b1 b2 (hne .i7 (by decide))
  case shift => exact (decodeAt_prefix _ b2).trans (decodePrefixed_opcode_zero y z)
  case bit => exact (decodeAt_prefix _ b2).trans (decodePrefixed_opcode_one y z)
  case res => exact (decodeAt_prefix _ b2).trans (decodePrefixed_opcode_two y z)
  case set => exact (decodeAt_prefix _ b2).trans (decodePrefixed_opcode_three y z)

/-- Settles O4: each word is the encoding of its instruction, which decoding gives back. -/
theorem wordsOfEachFamilyDecode : Obligations.WordsOfEachFamilyDecode := by
  intro p hp
  have h : p.2.wellFormed = true ∧ encode p.2 = p.1 := by
    revert p
    decide
  obtain ⟨hwf, hbytes⟩ := h
  rw [← hbytes, ← List.append_nil (encode p.2)]
  exact encodeThenDecodeGivesTheInstruction p.2 [] hwf

end Sys2Proof
end

section
/-! PROOFS. The fetch of an instruction's bytes (30_encoding.md R91). -/

namespace Sys2Proof.Machine

/-! ## The state after some bytes were fetched -/

/-- Whether one of the `n` addresses from `a` on is the joypad's, where a read draws (R66). -/
def readsJoypad (a : Word) (n : Nat) : Bool :=
  (List.range n).any fun k => decide (a + BitVec.ofNat 16 k = 0xFF00)

/-- The state after `n` bytes were fetched: the pc past them, a draw used up where one of them was the joypad's. -/
def fetched (s : State) (n : Nat) : State :=
  { s with
    pc := s.pc + BitVec.ofNat 16 n
    joypadDraws := s.joypadDraws + if readsJoypad s.pc n then 1 else 0 }

theorem add_ofNat_succ (a : Word) (k : Nat) : a + BitVec.ofNat 16 (k + 1) = a + 1 + BitVec.ofNat 16 k := by
  rw [Nat.add_comm k 1, BitVec.ofNat_add, BitVec.add_assoc]; rfl

theorem readsJoypad_succ (a : Word) (n : Nat) :
    readsJoypad a (n + 1) = (decide (a = 0xFF00) || readsJoypad (a + 1) n) := by
  have hshift : (fun k => decide (a + BitVec.ofNat 16 k = 0xFF00)) ∘ Nat.succ =
      fun k => decide (a + 1 + BitVec.ofNat 16 k = 0xFF00) :=
    funext fun k => by rw [Function.comp_apply, add_ofNat_succ]
  rw [readsJoypad, List.range_succ_eq_map, List.any_cons, List.any_map, hshift, BitVec.add_zero]; rfl

theorem readsJoypad_one (a : Word) : readsJoypad a 1 = decide (a = 0xFF00) := by
  rw [readsJoypad_succ]; exact Bool.or_false _

/-- Past the joypad's address the next ones are others, until the addresses wrap round. -/
theorem readsJoypad_past {n : Nat} (hn : n ≤ 0xFFFF) : readsJoypad (0xFF00 + 1) n = false := by
  rw [readsJoypad, List.any_eq_false]
  intro k hk
  have hk := List.mem_range.1 hk
  rw [decide_eq_true_eq]
  bv_omega

theorem fetched_zero (s : State) : fetched s 0 = s := by
  rw [fetched, BitVec.add_zero]; rfl

theorem fetched_one_add (s : State) {n : Nat} (hn : n ≤ 0xFFFF) : fetched (fetched s 1) n = fetched s (n + 1) := by
  have hdraws : (if readsJoypad s.pc 1 then 1 else 0) + (if readsJoypad (s.pc + 1) n then 1 else 0) =
      if readsJoypad s.pc (n + 1) then 1 else 0 := by
    rw [readsJoypad_one, readsJoypad_succ]
    by_cases hpc : s.pc = 0xFF00
    · rw [hpc, readsJoypad_past hn]; rfl
    · rw [decide_eq_false hpc, Bool.false_or]; exact Nat.zero_add _
  simp only [fetched, add_ofNat_succ, BitVec.add_zero, ← hdraws, Nat.add_assoc]

/-- Fetched bytes change no later read, but the joypad's where it was drawn from. -/
theorem busPeek_fetched {s : State} {n : Nat} {a : Word} (h : a = 0xFF00 → readsJoypad s.pc n = false) :
    busPeek true (fetched s n) a = busPeek true s a := by
  have hd : DevicesKept s (fetched s n) := ⟨rfl, rfl, rfl, rfl, rfl, rfl, rfl⟩
  have hj (ha : a = 0xFF00) : (fetched s n).joypadDraws = s.joypadDraws := by
    simp only [fetched, h ha]; rfl
  exact busPeek_congr hd true rfl hj

theorem busPeek_joypad (s : State) : busPeek true s 0xFF00 = some (Config.joypadRead s.joypadDraws) := rfl

/-! ## Fetching -/

theorem fetch8_eq_fetched {s : State} {v : Byte} (h : busPeek true s s.pc = some v) :
    fetch8 s = .ok v (fetched s 1) := by
  rw [fetch8_of_peek h, afterRead, fetched, readsJoypad_one]
  split
  · next hpc => rw [decide_eq_true hpc]; rfl
  · next hpc => rw [decide_eq_false hpc]; rfl

/-- A fetch that begins with readable bytes gives these, and goes on after them. -/
theorem fetchBytes_readable {bytes : List Byte} {s : State} (hlen : bytes.length ≤ 0xFFFF)
    (h : ∀ (k : Nat) (hk : k < bytes.length), busPeek true s (s.pc + BitVec.ofNat 16 k) = some bytes[k]) (n : Nat) :
    fetchBytes (bytes.length + n) s =
      (fetchBytes n (fetched s bytes.length)).bind fun vs u => .ok (bytes ++ vs) u := by
  induction bytes generalizing s with
  | nil =>
    rw [List.length_nil, Nat.zero_add, fetched_zero]
    cases fetchBytes n s <;> rfl
  | cons v vs ih =>
    have hv : fetch8 s = .ok v (fetched s 1) := fetch8_eq_fetched (BitVec.add_zero s.pc ▸ h 0 (Nat.zero_lt_succ _))
    have hvs := ih (s := fetched s 1) (Nat.le_of_succ_le hlen) fun k hk => by
      have hk' : k + 1 < (v :: vs).length := Nat.succ_lt_succ hk
      have hne : s.pc + BitVec.ofNat 16 (k + 1) = 0xFF00 → readsJoypad s.pc 1 = false := fun ha => by
        rw [readsJoypad_one, decide_eq_false_iff_not]
        bv_omega
      have hpc : (fetched s 1).pc + BitVec.ofNat 16 k = s.pc + BitVec.ofNat 16 (k + 1) := (add_ofNat_succ s.pc k).symm
      rw [hpc, busPeek_fetched hne]
      exact h (k + 1) hk'
    rw [List.length_cons, Nat.add_right_comm, fetchBytes, hv, Access.bind_ok, hvs,
      fetched_one_add s (Nat.le_of_succ_le hlen)]
    cases fetchBytes n (fetched s (vs.length + 1)) <;> rfl

/-- Settles O5: the bytes that can be read are fetched in order, and the next one, where it cannot be read, stops the
fetch. -/
theorem fetchReadsSuccessiveBytes : Obligations.FetchReadsSuccessiveBytes := by
  intro s bytes hlen h after
  change fetchBytes bytes.length s = .ok bytes (fetched s bytes.length) ∧ _
  have hfetch := fetchBytes_readable (hlen.trans (by decide)) h
  constructor
  · have h0 := hfetch 0
    rwa [fetchBytes, Access.bind_ok, List.append_nil] at h0
  · intro _ hnone n hn
    obtain ⟨m, rfl⟩ := Nat.exists_eq_add_of_lt hn
    have hjoy : s.pc + BitVec.ofNat 16 bytes.length ≠ 0xFF00 := fun ha => by
      rw [ha, busPeek_joypad] at hnone; cases hnone
    have hstop := fetch8_of_none ((busPeek_fetched fun ha => absurd ha hjoy).trans hnone)
    rw [Nat.add_assoc, hfetch, fetchBytes, hstop]; rfl

end Sys2Proof.Machine
end

section
/-! PROOFS. The 8-bit loads (40_load8.md): each instruction is a register write, a load or a store with its operands,
and what these three do is said once. -/

namespace Sys2Proof.Machine

/-! ## A register written -/

/-- A write of an 8-bit register changes the register file at most. -/
theorem State.set8_eq (s : State) (r : Reg8) (v : Byte) : s.set8 r v = { s with regs := (s.set8 r v).regs } := by
  cases r <;> rfl

@[simp] theorem State.setBusy_get8 (s : State) (c : Nat) (q : Reg8) : (s.setBusy c).get8 q = s.get8 q := by
  cases q <;> rfl

@[simp] theorem afterRead_get8 (s : State) (a : Word) (q : Reg8) : (afterRead s a).get8 q = s.get8 q := by
  cases q <;> simp [State.get8]

theorem exec_ofLd_reg (dst r : Reg8) (s : State) :
    exec (Instr.ofLd (.reg dst) (.reg r)) s = done 1 (s.set8 dst (s.get8 r)) := by rw [exec_eq, shape_ofLd_reg]; rfl

theorem exec_ofLdImm (dst : Reg8) (n : Byte) (s : State) :
    exec (Instr.ofLdImm (.reg dst) n) s = done 2 (s.set8 dst n) := by rw [exec_eq, shape_ofLdImm]; rfl

/-- Settles O35: both forms end with the destination written. -/
theorem registerLoadsCopyTheirSource : Obligations.RegisterLoadsCopyTheirSource := by
  intro s dst src n i v cost h
  have hexec : exec i s = done cost (s.set8 dst v) := by
    simp only [List.mem_cons, List.not_mem_nil, or_false, Prod.mk.injEq] at h
    obtain ⟨rfl, rfl, rfl⟩ | ⟨rfl, rfl, rfl⟩ := h
    · exact exec_ofLd_reg dst src s
    · exact exec_ofLdImm dst v s
  refine ⟨(s.set8 dst v).setBusy cost, hexec, by simp, fun q hq => ?_, s.set8_f dst v, ?_⟩
  · rw [State.setBusy_get8, s.set8_get8_of_ne v hq]
  · rw [s.set8_eq dst v]; rfl

/-! ## Loads from memory -/

/-- The high page's address as the statements write it (R92). -/
theorem highPage_eq_ofNat (n : Byte) : highPage n = BitVec.ofNat 16 (0xFF00 + n.toNat) := by
  refine BitVec.eq_of_toNat_eq ?_
  have h : (0xFF : Byte).toNat = 0xFF := rfl
  rw [highPage, word_toNat, h, BitVec.toNat_ofNat]
  omega

/-- What follows a read and changes the register file alone stays within `OnlyRegs` (R52, R66). -/
theorem onlyRegs_afterRead {s t : State} {a : Word} (ht : t = { afterRead s a with regs := t.regs }) (c : Nat) :
    OnlyRegs s (t.setBusy c) c := by
  rw [OnlyRegs, ht, afterRead]
  split <;> rfl

theorem loadReg_of_peek {a : Word} {s : State} {v : Byte} (h : busPeek true s a = some v) (r : Reg8) (c : Nat) :
    loadReg r a c s = .next (((afterRead s a).set8 r v).setBusy c) := by rw [loadReg, busRead_of_peek h]; rfl

theorem loadReg_of_none {a : Word} {s : State} (h : busPeek true s a = none) (r : Reg8) (c : Nat) :
    loadReg r a c s = .next (invalidAt a .read s) := by rw [loadReg, busRead_of_none h]; rfl

/-- Settles O36: all six forms are the same load, of a byte that can be read or not. -/
theorem memoryLoadsReadTheirAddress : Obligations.MemoryLoadsReadTheirAddress := by
  intro s r n nn i dst a cost h
  have hexec : exec i s = loadReg dst a cost s := by
    simp only [← highPage_eq_ofNat, List.mem_cons, List.not_mem_nil, or_false, Prod.mk.injEq] at h
    obtain ⟨rfl, rfl, rfl, rfl⟩ | ⟨rfl, rfl, rfl, rfl⟩ | ⟨rfl, rfl, rfl, rfl⟩ | ⟨rfl, rfl, rfl, rfl⟩ |
      ⟨rfl, rfl, rfl, rfl⟩ | ⟨rfl, rfl, rfl, rfl⟩ := h
    · rw [exec_eq, shape_ofLd_load]; rfl
    all_goals rfl
  rw [hexec]
  refine ⟨fun v hv => ⟨_, loadReg_of_peek hv dst cost, by simp, fun q hq => ?_, by simp, ?_⟩, fun hn => ?_⟩
  · rw [State.setBusy_get8, State.set8_get8_of_ne _ v hq, afterRead_get8]
  · exact onlyRegs_afterRead ((afterRead s a).set8_eq dst v) cost
  · exact loadReg_of_none hn dst cost

/-! ## Stores -/

theorem storeByte_of_ok {a : Word} {v : Byte} {s t : State} (h : busWrite a v s = .ok () t) (c : Nat) :
    storeByte a v c s = .next (t.setBusy c) := by rw [storeByte, h]; rfl

theorem storeByte_of_stop {a : Word} {v : Byte} {s t : State} (h : busWrite a v s = .stop t) (c : Nat) :
    storeByte a v c s = .next t := by rw [storeByte, h]; rfl

/-- The cost in `busy` is seen by no read. -/
theorem busPeek_setBusy (s : State) (c : Nat) (g : Bool) (a : Word) : busPeek g (s.setBusy c) a = busPeek g s a :=
  busPeek_congr ⟨rfl, rfl, rfl, rfl, rfl, rfl, rfl⟩ g rfl fun _ => rfl

/-- A byte stored where RAM keeps it reads back (R56). -/
theorem busPeek_ramStore_self {s : State} {a : Word} (v : Byte) (hwf : s.ram.wf = true) (h : plainRam s a = true) :
    busPeek true (ramStore a v s) a = some v := by rw [busPeek_ramStore v hwf, if_pos ⟨h, rfl⟩]

/-- Settles O37: all seven forms are the same store, and a store that reaches RAM reads back. -/
theorem memoryStoresWriteTheirAddress : Obligations.MemoryStoresWriteTheirAddress := by
  intro s r n nn i v a cost h
  have hexec : exec i s = storeByte a v cost s := by
    simp only [← highPage_eq_ofNat, List.mem_cons, List.not_mem_nil, or_false, Prod.mk.injEq] at h
    obtain ⟨rfl, rfl, rfl, rfl⟩ | ⟨rfl, rfl, rfl, rfl⟩ | ⟨rfl, rfl, rfl, rfl⟩ | ⟨rfl, rfl, rfl, rfl⟩ |
      ⟨rfl, rfl, rfl, rfl⟩ | ⟨rfl, rfl, rfl, rfl⟩ | ⟨rfl, rfl, rfl, rfl⟩ := h
    · rw [exec_eq, shape_ofLd_store]; rfl
    all_goals rfl
  rw [hexec]
  refine ⟨fun t ht => storeByte_of_ok ht cost, fun t ht => storeByte_of_stop ht cost, fun hwf hram => ?_⟩
  refine ⟨_, storeByte_of_ok (busWrite_of_plainRam hram v) cost, ?_, rfl⟩
  rw [busPeek_setBusy, busPeek_ramStore_self v hwf hram]

/-! ## The forms that move HL -/

/-- A word moved by a signed distance, as an integer modulo 65536 (R70). -/
theorem add_ofInt_toNat (w : Word) (d : Int) : ((w + BitVec.ofInt 16 d).toNat : Int) = (w.toNat + d) % 65536 := by
  rw [BitVec.toNat_add, BitVec.toNat_ofInt]
  omega

theorem loadMoveHl_of_peek {s : State} {v : Byte} (h : busPeek true s s.hl = some v) (d : Word) (c : Nat) :
    loadMoveHl d c s = .next ((((afterRead s s.hl).set8 .a v).set16 .hl (s.hl + d)).setBusy c) := by
  rw [loadMoveHl, busRead_of_peek h]; rfl

theorem loadMoveHl_of_none {s : State} (h : busPeek true s s.hl = none) (d : Word) (c : Nat) :
    loadMoveHl d c s = .next (invalidAt s.hl .read s) := by rw [loadMoveHl, busRead_of_none h]; rfl

theorem storeMoveHl_of_ok {s t : State} (h : busWrite s.hl s.regs.a s = .ok () t) (d : Word) (c : Nat) :
    storeMoveHl d c s = .next ((t.set16 .hl (s.hl + d)).setBusy c) := by rw [storeMoveHl, h]; rfl

theorem storeMoveHl_of_stop {s t : State} (h : busWrite s.hl s.regs.a s = .stop t) (d : Word) (c : Nat) :
    storeMoveHl d c s = .next t := by rw [storeMoveHl, h]; rfl

/-- Where HL stands once it is moved from `w`, whatever else the instruction did before. -/
theorem movedHl_toNat (t : State) (w : Word) (d : Int) (c : Nat) :
    (((t.set16 .hl (w + BitVec.ofInt 16 d)).setBusy c).hl.toNat : Int) = (w.toNat + d) % 65536 := by
  change (((t.set16 .hl _).get16 .hl).toNat : Int) = _
  rw [State.set16_get16_self, add_ofInt_toNat]

/-- The pairs are views of the register file (R22). -/
theorem State.pairs_eq {s t : State} (h : t.regs = s.regs) : t.af = s.af ∧ t.bc = s.bc ∧ t.de = s.de := by
  simp [State.af, State.bc, State.de, h]

/-- A bus write leaves the register file as it is. -/
theorem regs_of_busWrite_ok {a : Word} {v : Byte} {s t : State} (h : busWrite a v s = .ok () t) : t.regs = s.regs := by
  have hc := (busWrite_tame a v s).cpu
  rw [h] at hc
  exact hc.regs

/-- Settles O38: HL is moved by the signed distance, after an access that did not end the run. -/
theorem hlIncrementLoadsMoveHlAfterTheAccess : Obligations.HlIncrementLoadsMoveHlAfterTheAccess := by
  intro s delta ld st h
  have hexec : exec ld s = loadMoveHl (BitVec.ofInt 16 delta) 2 s ∧
      exec st s = storeMoveHl (BitVec.ofInt 16 delta) 2 s := by
    simp only [List.mem_cons, List.not_mem_nil, or_false, Prod.mk.injEq] at h
    obtain ⟨rfl, rfl, rfl⟩ | ⟨rfl, rfl, rfl⟩ := h <;> exact ⟨rfl, rfl⟩
  obtain ⟨hld, hst⟩ := hexec
  rw [hld, hst]
  refine ⟨fun v hv => ?_, fun hn => loadMoveHl_of_none hn _ 2, fun u hu => ?_,
    fun u hu => storeMoveHl_of_stop hu _ 2⟩
  · have hregs := afterRead_regs s s.hl
    have hf : (afterRead s s.hl).regs.f = s.regs.f := congrArg Regs.f hregs
    obtain ⟨-, hbc, hde⟩ := State.pairs_eq hregs
    exact ⟨_, loadMoveHl_of_peek hv _ 2, rfl, movedHl_toNat _ s.hl delta 2, hbc, hde, hf, onlyRegs_afterRead rfl 2⟩
  · obtain ⟨haf, hbc, hde⟩ := State.pairs_eq (regs_of_busWrite_ok hu)
    exact ⟨_, storeMoveHl_of_ok hu _ 2, movedHl_toNat u s.hl delta 2, haf, hbc, hde, rfl⟩

end Sys2Proof.Machine
end

section
/-! PROOFS. PUSH and POP (41_load16_stack.md R140, R144 to R146): each is two bus accesses in a row, SP moved before
each write and after each read, and what the pair of accesses does is said once. -/

namespace Sys2Proof.Machine

/-! ## The pairs of the stack's instructions -/

/-- The pairs are views of the register file (R95). -/
theorem State.getStk_congr {s t : State} (h : t.regs = s.regs) (rr : RegStk) : t.getStk rr = s.getStk rr := by
  cases rr <;> simp [State.getStk, State.af, State.bc, State.de, State.hl, h]

theorem State.setBusy_getStk (s : State) (c : Nat) (rr : RegStk) : (s.setBusy c).getStk rr = s.getStk rr :=
  State.getStk_congr rfl rr

/-- A pair reads back what was written to it; through AF the low byte is masked (R21, R23). -/
theorem State.setStk_getStk_self (s : State) (rr : RegStk) (h l : Byte) :
    (s.setStk rr (word h l)).getStk rr = word h (if rr = .af then l &&& 0xF0 else l) := by
  cases rr with
  | bc => exact s.set16_get16_self .bc (word h l)
  | de => exact s.set16_get16_self .de (word h l)
  | hl => exact s.set16_get16_self .hl (word h l)
  | af =>
    change word (hi (word h l)) (lo (word h l) &&& 0xF0) = _
    rw [hi_word, lo_word, if_pos rfl]

theorem State.setStk_getStk_of_ne (s : State) {rr q : RegStk} (v : Word) (h : q ≠ rr) :
    (s.setStk rr v).getStk q = s.getStk q := by
  cases rr <;> cases q <;> first | rfl | exact absurd rfl h

/-- A write of a pair changes the register file at most. -/
theorem State.setStk_eq (s : State) (rr : RegStk) (v : Word) :
    s.setStk rr v = { s with regs := (s.setStk rr v).regs } := by cases rr <;> rfl

theorem exec_ofPush (rr : RegStk) (s : State) :
    exec (Instr.ofPush rr) s = (push16 (s.getStk rr) s).finish 4 := by rw [exec_eq, shape_ofPush]; rfl

theorem exec_ofPop (rr : RegStk) (s : State) :
    exec (Instr.ofPop rr) s = ((pop16 s).bind fun v t => .ok () (t.setStk rr v)).finish 3 := by
  rw [exec_eq, shape_ofPop]; rfl

/-! ## A pop, read by read -/

theorem afterRead_setSp (s : State) (a n : Word) : afterRead (s.setSp n) a = (afterRead s a).setSp n := by
  unfold afterRead; split <;> rfl

theorem afterRead_of_ne {a : Word} (h : a ≠ 0xFF00) (s : State) : afterRead s a = s := if_neg h

/-- What a read leaves differs in the count of joypad draws at most (R52, log entry 4). -/
theorem afterRead_eq (s : State) (a : Word) :
    afterRead s a = { s with joypadDraws := (afterRead s a).joypadDraws } := by
  unfold afterRead; split <;> rfl

/-- A read changes no read of another address, the joypad's included: only its own reads draw from it (R52, R66). -/
theorem busPeek_afterRead {s : State} {a b : Word} (h : b ≠ a) (n : Word) :
    busPeek true ((afterRead s a).setSp n) b = busPeek true s b := by
  refine busPeek_congr ⟨?_, ?_, ?_, ?_, ?_, ?_, ?_⟩ true ?_ fun hb => ?_
  case refine_9 => rw [State.setSp_joypadDraws, afterRead_of_ne fun ha => h (hb.trans ha.symm)]
  all_goals simp

/-- A pop whose low byte can be read goes on with the high byte's read, SP moved by one (R140). -/
theorem pop16_of_peek_low {s : State} {l : Byte} (hl : busPeek true s s.sp = some l) :
    pop16 s = (busRead (s.sp + 1) ((afterRead s s.sp).setSp (s.sp + 1))).bind fun h u =>
      .ok (word h l) (u.setSp (u.sp + 1)) := by
  rw [pop16, busRead_of_peek hl, Access.bind_ok, afterRead_sp]; rfl

theorem add_one_ne_self (a : Word) : a + 1 ≠ a := by bv_omega

/-- A pop of two bytes that can be read. -/
theorem pop16_of_peek {s : State} {l h : Byte} (hl : busPeek true s s.sp = some l)
    (hh : busPeek true s (s.sp + 1) = some h) :
    pop16 s = .ok (word h l) ((afterRead (afterRead s s.sp) (s.sp + 1)).setSp (s.sp + 2)) := by
  have hread := (busPeek_afterRead (add_one_ne_self s.sp) (s.sp + 1)).trans hh
  have hsp : s.sp + 1 + 1 = s.sp + 2 := by bv_omega
  rw [pop16_of_peek_low hl, busRead_of_peek hread, Access.bind_ok, afterRead_setSp, State.setSp_sp, hsp]; rfl

/-- A pop that stops at the low byte has not moved SP (R301). -/
theorem pop16_of_none_low {s : State} (hl : busPeek true s s.sp = none) : pop16 s = .stop (invalidAt s.sp .read s) := by
  rw [pop16, busRead_of_none hl]; rfl

/-- A pop that stops at the high byte has moved SP past the low one (R301). -/
theorem pop16_of_none_high {s : State} {l : Byte} (hl : busPeek true s s.sp = some l)
    (hh : busPeek true s (s.sp + 1) = none) :
    pop16 s = .stop (invalidAt (s.sp + 1) .read ((afterRead s s.sp).setSp (s.sp + 1))) := by
  have hread := (busPeek_afterRead (add_one_ne_self s.sp) (s.sp + 1)).trans hh
  rw [pop16_of_peek_low hl, busRead_of_none hread]; rfl

/-- Settles O41, by whether the two bytes can be read. -/
theorem popLoadsThePairFromTheStack : Obligations.PopLoadsThePairFromTheStack := by
  intro s rr
  rw [exec_ofPop]
  refine ⟨fun l h hl hh => ?_, fun hl => ?_, fun l hl hh => ?_⟩
  · rw [pop16_of_peek hl hh, Access.bind_ok]
    set u := (afterRead (afterRead s s.sp) (s.sp + 1)).setSp (s.sp + 2) with hu
    have hregs : u.regs = s.regs := (afterRead_regs _ _).trans (afterRead_regs _ _)
    refine ⟨(u.setStk rr (word h l)).setBusy 3, rfl, ?_, fun q hq => ?_, ?_⟩
    · rw [State.setBusy_getStk, u.setStk_getStk_self rr h l, word_eq_ofNat]
    · rw [State.setBusy_getStk, u.setStk_getStk_of_ne _ hq, State.getStk_congr hregs]
    · rw [u.setStk_eq rr, hu, afterRead_eq _ (s.sp + 1), afterRead_eq s s.sp]; rfl
  · rw [pop16_of_none_low hl]; rfl
  · refine ⟨(afterRead s s.sp).joypadDraws, ?_⟩
    rw [pop16_of_none_high hl hh, afterRead_eq s s.sp]; rfl

/-! ## A push, write by write -/

/-- A push whose first write is good goes on with the low byte's write, SP moved again before it (R140). -/
theorem push16_of_ok {v : Word} {s t : State} (h : busWrite (s.sp - 1) (hi v) (s.setSp (s.sp - 1)) = .ok () t) :
    push16 v s = busWrite (s.sp - 2) (lo v) (t.setSp (s.sp - 2)) := by
  have hc := (busWrite_tame (s.sp - 1) (hi v) (s.setSp (s.sp - 1))).cpu
  rw [h] at hc
  have hsp : t.sp - 1 = s.sp - 2 := by rw [show t.sp = s.sp - 1 from hc.sp]; bv_omega
  rw [push16, h, Access.bind_ok, hsp]

theorem push16_of_stop {v : Word} {s t : State} (h : busWrite (s.sp - 1) (hi v) (s.setSp (s.sp - 1)) = .stop t) :
    push16 v s = .stop t := by rw [push16, h]; rfl

/-- The state after a push onto a stack in RAM. -/
def pushedToRam (v : Word) (s : State) : State :=
  ramStore (s.sp - 2) (lo v) (ramStore (s.sp - 1) (hi v) (s.setSp (s.sp - 2)))

section
variable {s : State} (v : Word)

theorem push16_of_plainRam (hhigh : plainRam s (s.sp - 1) = true) (hlow : plainRam s (s.sp - 2) = true) :
    push16 v s = .ok () (pushedToRam v s) := by
  have h1 := busWrite_of_plainRam (s := s.setSp (s.sp - 1)) hhigh (hi v)
  have h2 := busWrite_of_plainRam (s := ramStore (s.sp - 1) (hi v) (s.setSp (s.sp - 2))) hlow (lo v)
  exact (push16_of_ok h1).trans h2

theorem busPeek_pushedToRam_low (hwf : s.ram.wf = true) (hlow : plainRam s (s.sp - 2) = true) :
    busPeek true (pushedToRam v s) (s.sp - 2) = some (lo v) :=
  busPeek_ramStore_self (lo v) (Memory.wf_write _ _ _ hwf) hlow

/-- The low byte's store leaves the high byte where the two are different bytes of RAM. -/
theorem busPeek_pushedToRam_high (hwf : s.ram.wf = true) (hhigh : plainRam s (s.sp - 1) = true)
    (hne : ramKey (s.sp - 1) ≠ ramKey (s.sp - 2)) : busPeek true (pushedToRam v s) (s.sp - 1) = some (hi v) := by
  rw [pushedToRam, busPeek_ramStore _ (Memory.wf_write _ _ _ hwf), if_neg fun h => hne h.2]
  exact busPeek_ramStore_self (hi v) hwf hhigh

end

/-- A pop of a word that stands at SP where no read has an effect of its own. -/
theorem pop16_of_word {s : State} {v : Word} (hl : busPeek true s s.sp = some (lo v))
    (hh : busPeek true s (s.sp + 1) = some (hi v)) (hlow : s.sp ≠ 0xFF00) (hhigh : s.sp + 1 ≠ 0xFF00) :
    pop16 s = .ok v (s.setSp (s.sp + 2)) := by
  rw [pop16_of_peek hl hh, afterRead_of_ne hhigh, afterRead_of_ne hlow, word_hi_lo]

/-- Settles O40: each write by its equation above, and a stack in RAM keeps the two bytes. -/
theorem pushStoresThePairBelowSp : Obligations.PushStoresThePairBelowSp := by
  intro s rr v
  rw [exec_ofPush, ← hi_eq_ofNat, ← lo_eq_ofNat]
  refine ⟨fun t1 t2 h1 h2 => ?_, fun t1 h1 => ?_, fun t1 t2 h1 h2 => ?_, fun hwf hhigh hlow hne => ?_⟩
  · rw [(push16_of_ok h1).trans h2]; rfl
  · rw [push16_of_stop h1]; rfl
  · rw [(push16_of_ok h1).trans h2]; rfl
  · set t := (pushedToRam v s).setBusy 4
    have hl : busPeek true t (s.sp - 2) = some (lo v) := by
      rw [busPeek_setBusy, busPeek_pushedToRam_low v hwf hlow]
    have hh : busPeek true t (s.sp - 1) = some (hi v) := by
      rw [busPeek_setBusy, busPeek_pushedToRam_high v hwf hhigh hne]
    have hnext : t.sp + 1 = s.sp - 1 := by change s.sp - 2 + 1 = _; bv_omega
    have hback : t.sp + 2 = s.sp := by change s.sp - 2 + 2 = _; bv_omega
    have hpop : pop16 t = .ok v (t.setSp (t.sp + 2)) :=
      pop16_of_word hl (hnext ▸ hh) (ne_joypad_of_plainRam hlow) (hnext ▸ ne_joypad_of_plainRam hhigh)
    rw [hback] at hpop
    exact ⟨t, by rw [push16_of_plainRam v hhigh hlow]; rfl, rfl, hh, hl, hpop⟩

end Sys2Proof.Machine
end

section
/-! PROOFS. The 8-bit arithmetic and logic instructions (42_alu8.md): what each operation's result and packed flags are on
exact integers, and what the shapes the instructions run as do with them. -/

namespace Sys2Proof.Machine

/-! ## The flags as F holds them -/

/-- The flags as the bits the statements join with OR (R24). -/
theorem packFlags_eq_or (z n h c : Bool) :
    packFlags z n h c = (if z then 0x80 else 0x00) ||| (if n then 0x40 else 0x00) |||
      (if h then 0x20 else 0x00) ||| (if c then 0x10 else 0x00) := by revert z n h c; decide

/-- The byte F holds after an operation has written its four flags. -/
def Flagged.flags (r : Flagged) : Byte := packFlags r.z r.n r.h r.c

/-- A bit as a carry input is that binary digit (R7). -/
theorem bit_getLsbD (v : Byte) (n : Nat) : bit (v.getLsbD n) = v.toNat / 2 ^ n % 2 := by
  rw [← Nat.toNat_testBit, BitVec.getLsbD]
  cases v.toNat.testBit n <;> rfl

theorem bit_flagC (s : State) : bit s.flagC = s.regs.f.toNat / 16 % 2 := bit_getLsbD s.regs.f 4

theorem and_flagN (s : State) : s.regs.f &&& 0x40 = if s.flagN then 0x40 else 0x00 := by
  rw [State.flagN]; generalize s.regs.f = f; revert f; decide

theorem and_flagC (s : State) : s.regs.f &&& 0x10 = if s.flagC then 0x10 else 0x00 := by
  rw [State.flagC]; generalize s.regs.f = f; revert f; decide

/-- Writing the four flags changes F alone, to the packed byte as it is (R21). -/
theorem State.setFlags_eq (s : State) (z n h c : Bool) :
    s.setFlags z n h c = { s with regs := { s.regs with f := packFlags z n h c } } := by
  rw [State.setFlags, State.setF, packFlags_masked]

/-! ## The accumulator operations -/

theorem add8_val_toNat (a b : Byte) (c : Bool) : (add8 a b c).val.toNat = (a.toNat + b.toNat + bit c) % 256 :=
  BitVec.toNat_ofNat ..

theorem add8_flags (a b : Byte) (c : Bool) :
    (add8 a b c).flags = (if (a.toNat + b.toNat + bit c) % 256 = 0 then 0x80 else 0x00) |||
      (if a.toNat % 16 + b.toNat % 16 + bit c > 0xF then 0x20 else 0x00) |||
      (if a.toNat + b.toNat + bit c > 0xFF then 0x10 else 0x00) := by
  simp [Flagged.flags, packFlags_eq_or, add8]

/-- A byte made of an integer is that integer modulo 256 (R7). -/
theorem ofInt_toNat (x : Int) : ((BitVec.ofInt 8 x).toNat : Int) = x % 256 := by
  rw [BitVec.toNat_ofInt]; omega

theorem sub8_val_toNat (a b : Byte) (c : Bool) :
    ((sub8 a b c).val.toNat : Int) = ((a.toNat : Int) - b.toNat - bit c) % 256 := ofInt_toNat _

theorem sub8_flags (a b : Byte) (c : Bool) :
    (sub8 a b c).flags = (if ((a.toNat : Int) - b.toNat - bit c) % 256 = 0 then 0x80 else 0x00) ||| 0x40 |||
      (if a.toNat % 16 < b.toNat % 16 + bit c then 0x20 else 0x00) |||
      (if a.toNat < b.toNat + bit c then 0x10 else 0x00) := by
  simp only [Flagged.flags, packFlags_eq_or, sub8, decide_eq_true_eq, if_true]

theorem logic8_flags (r : Byte) (h : Bool) :
    (logic8 r h).flags = (if r = 0 then 0x80 else 0x00) ||| (if h then 0x20 else 0x00) := by
  simp [Flagged.flags, packFlags_eq_or, logic8]

/-- An accumulator operation writes F, and A unless it is CP (R160, R169). -/
theorem State.applyAlu_eq (s : State) (op : AluOp) (b : Byte) :
    s.applyAlu op b = { s with regs := { s.regs with
      a := if op = .cp then s.regs.a else (alu8 op s.regs.a b s.flagC).val
      f := (alu8 op s.regs.a b s.flagC).flags } } := by
  rw [State.applyAlu, State.setFlags_eq]
  split <;> rfl

theorem exec_ofAlu (op : AluOp) (x : R8) (s : State) :
    exec (Instr.ofAlu op x) s = aluR8 op x (prefixedCost x 1 2) s := by rw [exec_eq, shape_ofAlu]; rfl

theorem exec_ofAluImm (op : AluOp) (b : Byte) (s : State) :
    exec (Instr.ofAluImm op b) s = done 2 (s.applyAlu op b) := by rw [exec_eq, shape_ofAluImm]; rfl

/-- Every operand form ends with the operation applied; a read at HL may have drawn from the joypad before (R161). -/
theorem exec_of_aluForm {op : AluOp} {s : State} {i : Instr} {b : Byte} {cost : Nat} (h : AluForm op s i b cost) :
    ∃ d, exec i s = .next (({ s with joypadDraws := d }.applyAlu op b).setBusy cost) := by
  obtain ⟨x, hb, rfl, rfl⟩ | ⟨rfl, rfl⟩ := h
  · rw [exec_ofAlu]
    cases x with
    | reg r =>
      obtain rfl : s.get8 r = b := Option.some.inj hb
      exact ⟨s.joypadDraws, rfl⟩
    | indHl =>
      refine ⟨(afterRead s s.hl).joypadDraws, ?_⟩
      rw [← afterRead_eq, aluR8, readR8, busRead_of_peek hb]; rfl
  · exact ⟨s.joypadDraws, exec_ofAluImm op b s⟩

/-- What an accumulator operation leaves in every operand form, by its result and flags (R160, R161). -/
theorem exec_aluForm_result {op : AluOp} {s : State} {i : Instr} {b : Byte} {cost : Nat} (h : AluForm op s i b cost)
    {r : Flagged} (hr : alu8 op s.regs.a b s.flagC = r) :
    ∃ t, exec i s = .next t ∧ t.regs.a = (if op = .cp then s.regs.a else r.val) ∧ t.regs.f = r.flags ∧
      t.bc = s.bc ∧ t.de = s.de ∧ t.hl = s.hl ∧ OnlyRegs s t cost := by
  obtain ⟨d, hexec⟩ := exec_of_aluForm h
  rw [State.applyAlu_eq] at hexec
  subst hr
  exact ⟨_, hexec, rfl, rfl, rfl, rfl, rfl, rfl⟩

/-- Settles O42: both operations are the add, with their carry input. -/
theorem addAndAdcSumWithCarry : Obligations.AddAndAdcSumWithCarry := by
  intro s op cin hop i b cost hform sum
  obtain ⟨c, rfl, hr, hcp⟩ : ∃ c, cin = bit c ∧ alu8 op s.regs.a b s.flagC = add8 s.regs.a b c ∧ op ≠ .cp := by
    simp only [List.mem_cons, List.not_mem_nil, or_false, Prod.mk.injEq] at hop
    obtain ⟨rfl, rfl⟩ | ⟨rfl, rfl⟩ := hop
    · exact ⟨false, rfl, rfl, by decide⟩
    · exact ⟨s.flagC, (bit_flagC s).symm, rfl, by decide⟩
  obtain ⟨t, ht, ha, hf, hkept⟩ := exec_aluForm_result hform hr
  refine ⟨t, ht, ?_, hf.trans (add8_flags ..), hkept⟩
  rw [ha, if_neg hcp, add8_val_toNat]

/-- Settles O43: the three operations are the subtract, with their borrow input, and only CP keeps A. -/
theorem subSbcAndCpSubtractWithBorrow : Obligations.SubSbcAndCpSubtractWithBorrow := by
  intro s op cin keepsA hop i b cost hform difference
  obtain ⟨c, rfl, hr, hcp⟩ : ∃ c, cin = bit c ∧ alu8 op s.regs.a b s.flagC = sub8 s.regs.a b c ∧
      (op = .cp ↔ keepsA = true) := by
    simp only [List.mem_cons, List.not_mem_nil, or_false, Prod.mk.injEq] at hop
    obtain ⟨rfl, rfl, rfl⟩ | ⟨rfl, rfl, rfl⟩ | ⟨rfl, rfl, rfl⟩ := hop
    · exact ⟨false, rfl, rfl, by decide⟩
    · exact ⟨s.flagC, (bit_flagC s).symm, rfl, by decide⟩
    · exact ⟨false, rfl, rfl, by decide⟩
  obtain ⟨t, ht, ha, hf, hkept⟩ := exec_aluForm_result hform hr
  refine ⟨t, ht, ?_, hf.trans (sub8_flags ..), hkept⟩
  simp only [ha, hcp, apply_ite BitVec.toNat, Nat.cast_ite, sub8_val_toNat]
  rfl

/-- An operand at HL that cannot be read ends the run (R301). -/
theorem exec_ofAlu_indHl_of_none {s : State} (h : busPeek true s s.hl = none) (op : AluOp) :
    exec (Instr.ofAlu op .indHl) s = .next (invalidAt s.hl .read s) := by
  rw [exec_ofAlu, aluR8, readR8, busRead_of_none h]; rfl

/-- Settles O44: the three operations are `logic8` of their bitwise result, H set by AND alone. -/
theorem andXorOrAreBitwise : Obligations.AndXorOrAreBitwise := by
  refine ⟨fun s op i b cost hform r h hop => ?_, fun s op hn => exec_ofAlu_indHl_of_none hn op⟩
  obtain ⟨hc, rfl, hr, hcp⟩ : ∃ hc : Bool, h = (if hc then 0x20 else 0x00) ∧
      alu8 op s.regs.a b s.flagC = logic8 r hc ∧ op ≠ .cp := by
    simp only [List.mem_cons, List.not_mem_nil, or_false, Prod.mk.injEq] at hop
    obtain ⟨rfl, rfl, rfl⟩ | ⟨rfl, rfl, rfl⟩ | ⟨rfl, rfl, rfl⟩ := hop
    · exact ⟨true, rfl, rfl, by decide⟩
    · exact ⟨false, rfl, rfl, by decide⟩
    · exact ⟨false, rfl, rfl, by decide⟩
  obtain ⟨t, ht, ha, hf, hkept⟩ := exec_aluForm_result hform hr
  exact ⟨t, ht, ha.trans (if_neg hcp), hf.trans (logic8_flags ..), hkept⟩

/-! ## INC and DEC -/

/-- INC's or DEC's computation. -/
def incDec8 (inc : Bool) : Byte → Bool → Flagged := if inc then inc8 else dec8

theorem incDec8_val (inc : Bool) (v : Byte) (c : Bool) : (incDec8 inc v c).val = if inc then v + 1 else v - 1 := by
  cases inc with
  | true => exact BitVec.eq_of_toNat_eq (BitVec.toNat_ofNat ..)
  | false =>
    change BitVec.ofInt 8 ((v.toNat : Int) - 1) = v - 1
    have h := ofInt_toNat ((v.toNat : Int) - 1)
    bv_omega

theorem incDec8_flags (inc : Bool) (v : Byte) (c : Bool) :
    (incDec8 inc v c).flags = (if (incDec8 inc v c).val = 0 then 0x80 else 0x00) ||| (if inc then 0x00 else 0x40) |||
      (if v.toNat % 16 = (if inc then 15 else 0) then 0x20 else 0x00) ||| (if c then 0x10 else 0x00) := by
  cases inc <;> simp [Flagged.flags, packFlags_eq_or, incDec8, inc8, dec8]

theorem exec_incDec (inc : Bool) (x : R8) (s : State) :
    exec (if inc then Instr.ofInc x else Instr.ofDec x) s = stepR8 (incDec8 inc) x (prefixedCost x 1 3) s := by
  cases inc with
  | true => rw [if_pos rfl, exec_eq, shape_ofInc]; rfl
  | false => rw [if_neg Bool.false_ne_true, exec_eq, shape_ofDec]; rfl

section
variable {s : State} {v : Byte} {g : Byte → Bool → Flagged} {r : Flagged}

/-- On a register both writes are made, the flags computed from its value before (R93). -/
theorem stepR8_reg {q : Reg8} (hv : s.get8 q = v) (hr : g v s.flagC = r) (c : Nat) :
    stepR8 g (.reg q) c s = .next (((s.set8 q r.val).setFlags r.z r.n r.h r.c).setBusy c) := by
  subst hv hr; rfl

/-- At HL the flags follow the write; the carry they are computed from is the one before the instruction. -/
theorem stepR8_indHl (hv : busPeek true s s.hl = some v) (hr : g v s.flagC = r) (c : Nat) :
    stepR8 g .indHl c s = ((busWrite s.hl r.val (afterRead s s.hl)).bind fun _ u =>
      .ok () (u.setFlags r.z r.n r.h r.c)).finish c := by
  have hc : (afterRead s s.hl).flagC = s.flagC := by rw [State.flagC, afterRead_regs]; rfl
  have hhl : (afterRead s s.hl).hl = s.hl := by rw [State.hl, afterRead_regs]; rfl
  simp only [stepR8, readR8, busRead_of_peek hv, Access.bind_ok, hc, hr, writeR8, hhl]

theorem stepR8_indHl_of_ok {u : State} (hv : busPeek true s s.hl = some v) (hr : g v s.flagC = r)
    (hu : busWrite s.hl r.val (afterRead s s.hl) = .ok () u) (c : Nat) :
    stepR8 g .indHl c s = .next { u with regs := { s.regs with f := r.flags }, busy := c } := by
  have hregs : u.regs = s.regs := (regs_of_busWrite_ok hu).trans (afterRead_regs s s.hl)
  rw [stepR8_indHl hv hr, hu, Access.bind_ok, State.setFlags_eq, hregs]; rfl

theorem stepR8_indHl_of_stop {u : State} (hv : busPeek true s s.hl = some v) (hr : g v s.flagC = r)
    (hu : busWrite s.hl r.val (afterRead s s.hl) = .stop u) (c : Nat) : stepR8 g .indHl c s = .next u := by
  rw [stepR8_indHl hv hr, hu]; rfl

theorem stepR8_indHl_of_none (hn : busPeek true s s.hl = none) (c : Nat) :
    stepR8 g .indHl c s = .next (invalidAt s.hl .read s) := by rw [stepR8, readR8, busRead_of_none hn]; rfl

end

/-- Settles O45: the register form by its two writes, the form at HL by how its read and its write end. -/
theorem incAndDecKeepTheCarry : Obligations.IncAndDecKeepTheCarry := by
  intro s inc v r f i
  have hexec (x : R8) : exec (i x) s = stepR8 (incDec8 inc) x (prefixedCost x 1 3) s := exec_incDec inc x s
  have hval : (incDec8 inc v s.flagC).val = r := incDec8_val inc v s.flagC
  have hflags : (incDec8 inc v s.flagC).flags = f := by rw [incDec8_flags, hval, ← and_flagC]
  refine ⟨fun q hq => ?_, fun hv => ⟨fun u hu => ?_, fun u hu => ?_⟩, fun hn => ?_⟩
  · refine ⟨_, (hexec (.reg q)).trans (stepR8_reg hq rfl 1), by simp [hval], fun p hp => ?_, ?_, ?_⟩
    · rw [State.setBusy_get8, State.setFlags_get8, State.set8_get8_of_ne _ _ hp]
    · rw [State.setBusy_regs, State.setFlags_f]; exact hflags
    · rw [State.setFlags_eq, State.set8_eq]; rfl
  · rw [hexec, stepR8_indHl_of_ok hv rfl (hval ▸ hu), hflags]; rfl
  · rw [hexec, stepR8_indHl_of_stop hv rfl (hval ▸ hu)]
  · rw [hexec, stepR8_indHl_of_none hn]

/-! ## DAA -/

/-- DAA's intermediate after the low correction (R174). -/
def daaLow (a : Byte) (n h : Bool) : Int :=
  if n then (if h then (a.toNat : Int) - 0x06 else a.toNat)
  else if h = true ∨ (a.toNat : Int) % 16 > 9 then a.toNat + 0x06 else a.toNat

/-- Whether DAA makes the high correction, by the intermediate after the low one (R174). -/
def daaHigh (a : Byte) (n h c : Bool) : Bool := c || (!n && decide (daaLow a n h > 0x9F))

/-- DAA's value before its reduction modulo 256 (R174). -/
def daaSum (a : Byte) (n h c : Bool) : Int :=
  if daaHigh a n h c then (if n then daaLow a n h - 0x60 else daaLow a n h + 0x60) else daaLow a n h

/-- A byte made of an integer is 0 where the integer is 0 modulo 256. -/
theorem ofInt_eq_zero_iff (x : Int) : BitVec.ofInt 8 x = 0 ↔ x % 256 = 0 := by
  rw [← ofInt_toNat, ← BitVec.toNat_inj]; exact Int.natCast_eq_zero.symm

/-- The model's DAA is one sum, whose reduction modulo 256 comes last. -/
theorem daa8_eq (a : Byte) (n h c : Bool) :
    daa8 a n h c = { val := BitVec.ofInt 8 (daaSum a n h c), z := decide (daaSum a n h c % 256 = 0), n := n
                     h := false, c := daaHigh a n h c } := by
  simp only [← ofInt_eq_zero_iff]
  cases n with
  | true => cases c <;> simp [daa8, daaSum, daaHigh, daaLow]
  | false =>
    have hlow : daaLow a false h = (if h || decide (a.toNat % 16 > 9) then a.toNat + 0x06 else a.toNat : Nat) := by
      cases h with
      | true => simp [daaLow]
      | false => simp only [daaLow, Bool.false_eq_true, if_false, false_or, Bool.false_or, decide_eq_true_eq]; norm_cast
    have hhigh : daaHigh a false h c = (c || decide ((if h || decide (a.toNat % 16 > 9) then a.toNat + 0x06
        else a.toNat) > 0x9F)) := by
      rw [daaHigh, hlow]; norm_cast
    simp only [daa8, daaSum, hlow, hhigh, Bool.false_eq_true, if_false, ← BitVec.ofInt_natCast]
    push_cast
    rfl

theorem daa8_val_toNat (a : Byte) (n h c : Bool) : ((daa8 a n h c).val.toNat : Int) = daaSum a n h c % 256 := by
  rw [daa8_eq]; exact ofInt_toNat _

theorem daa8_flags (a : Byte) (n h c : Bool) :
    (daa8 a n h c).flags = (if daaSum a n h c % 256 = 0 then 0x80 else 0x00) ||| (if n then 0x40 else 0x00) |||
      (if daaHigh a n h c then 0x10 else 0x00) := by
  simp [daa8_eq, Flagged.flags, packFlags_eq_or]

theorem exec_daa (s : State) {r : Flagged} (hr : daa8 s.regs.a s.flagN s.flagH s.flagC = r) :
    exec .daa s = .next { s with regs := { s.regs with a := r.val, f := r.flags }, busy := 1 } := by
  change execDaa s = _
  rw [execDaa, State.setFlags_eq, hr]; rfl

/-- Settles O46, by the result and the flags of the sum before its reduction. -/
theorem daaAdjustsTheAccumulator : Obligations.DaaAdjustsTheAccumulator := by
  intro s a n h c low high result
  refine ⟨_, exec_daa s rfl, daa8_val_toNat s.regs.a n h c, ?_, rfl, rfl, rfl, rfl, rfl⟩
  rw [and_flagN]
  exact daa8_flags s.regs.a n h c

/-! ## CPL, SCF and CCF -/

section
variable {f : Byte}

theorem packFlags_cpl (h : f &&& 0x0F = 0) : packFlags (f.getLsbD 7) true true (f.getLsbD 4) = f ||| 0x60 := by
  revert f; decide

theorem packFlags_scf : packFlags (f.getLsbD 7) false false true = (f &&& 0x80) ||| 0x10 := by revert f; decide

theorem packFlags_ccf : packFlags (f.getLsbD 7) false false (!f.getLsbD 4) = (f &&& 0x90) ^^^ 0x10 := by
  revert f; decide

end

/-- Settles O47, by the byte each instruction packs. -/
theorem cplScfAndCcf : Obligations.CplScfAndCcf := by
  intro s hs
  refine ⟨rfl, ?_, ?_, ?_⟩
  · have hnot : s.regs.a ^^^ 0xFF = ~~~s.regs.a := BitVec.xor_allOnes
    change execCpl s = _
    rw [execCpl, State.setFlags_eq, State.flagZ, State.flagC, packFlags_cpl hs, hnot]; rfl
  · change execScf s = _
    rw [execScf, State.setFlags_eq, State.flagZ, packFlags_scf]; rfl
  · change execCcf s = _
    rw [execCcf, State.setFlags_eq, State.flagZ, State.flagC, packFlags_ccf]; rfl

end Sys2Proof.Machine
end

section
/-! PROOFS. The 16-bit arithmetic instructions (43_alu16.md): what each sum's result and flags are on exact integers, and
which fields each instruction writes. -/

namespace Sys2Proof.Machine

/-! ## A pair written -/

theorem State.setBusy_get16 (s : State) (c : Nat) (q : Reg16) : (s.setBusy c).get16 q = s.get16 q := by
  cases q <;> rfl

/-- What an instruction that only writes a pair leaves: that pair's new value, the other pairs and AF as they were. -/
theorem done_set16 (s : State) (rr : Reg16) (v : Word) (c : Nat) :
    ∃ t, done c (s.set16 rr v) = .next t ∧ t.get16 rr = v ∧ (∀ q, q ≠ rr → t.get16 q = s.get16 q) ∧ t.af = s.af ∧
      t = { s with regs := t.regs, sp := t.sp, busy := c } := by
  refine ⟨_, rfl, ?_, fun q hq => ?_, s.set16_af rr v, ?_⟩
  · rw [State.setBusy_get16, State.set16_get16_self]
  · rw [State.setBusy_get16, s.set16_get16_of_ne v hq]
  · rw [s.set16_eq rr v]; rfl

/-- The byte F holds after a 16-bit add has written its flags: N is cleared, Z is the instruction's own. -/
def Flagged16.flags (r : Flagged16) (z : Bool) : Byte := packFlags z false r.h r.c

/-- What a 16-bit add into HL leaves: the sum, its flags, and the rest of the register file as it was. -/
theorem done_setFlags_set16_hl (s : State) (z : Bool) (r : Flagged16) (c : Nat) :
    ∃ t, done c ((s.setFlags z false r.h r.c).set16 .hl r.val) = .next t ∧ t.hl = r.val ∧ t.regs.f = r.flags z ∧
      t.regs.a = s.regs.a ∧ t.bc = s.bc ∧ t.de = s.de ∧ t = { s with regs := t.regs, busy := c } :=
  ⟨_, rfl, word_hi_lo r.val, s.setFlags_f z false r.h r.c, rfl, rfl, rfl, rfl⟩

/-! ## ADD HL, INC and DEC of a pair -/

theorem and_flagZ (s : State) : s.regs.f &&& 0x80 = if s.flagZ then 0x80 else 0x00 := by
  rw [State.flagZ]; generalize s.regs.f = f; revert f; decide

theorem add16_val_toNat (h v : Word) : (add16 h v).val.toNat = (h.toNat + v.toNat) % 65536 := BitVec.toNat_ofNat ..

/-- The carries out of bits 11 and 15, beside a Z that is kept (R190). -/
theorem add16_flags (h v : Word) (z : Bool) :
    (add16 h v).flags z = (if z then 0x80 else 0x00) |||
      (if h.toNat % 4096 + v.toNat % 4096 > 4095 then 0x20 else 0x00) |||
      (if h.toNat + v.toNat > 65535 then 0x10 else 0x00) := by
  simp [Flagged16.flags, packFlags_eq_or, add16]

theorem exec_ofAddHl (rr : Reg16) (s : State) : exec (Instr.ofAddHl rr) s = addHl rr s := by
  rw [exec_eq, shape_ofAddHl]; rfl

theorem exec_ofInc16 (rr : Reg16) (s : State) :
    exec (Instr.ofInc16 rr) s = done 2 (s.set16 rr (s.get16 rr + 1)) := by rw [exec_eq, shape_ofInc16]; rfl

theorem exec_ofDec16 (rr : Reg16) (s : State) :
    exec (Instr.ofDec16 rr) s = done 2 (s.set16 rr (s.get16 rr - 1)) := by rw [exec_eq, shape_ofDec16]; rfl

/-- Settles O48: ADD HL writes the flags and HL, INC and DEC write the pair alone. -/
theorem sixteenBitArithmetic : Obligations.SixteenBitArithmetic := by
  intro s rr h v
  refine ⟨?_, ?_, ?_⟩
  · obtain ⟨t, ht, hhl, hf, hkept⟩ := done_setFlags_set16_hl s s.flagZ (add16 s.hl (s.get16 rr)) 2
    refine ⟨t, (exec_ofAddHl rr s).trans ht, ?_, ?_, hkept⟩
    · rw [hhl, add16_val_toNat]
    · rw [hf, add16_flags, and_flagZ]
  · obtain ⟨t, ht, hval, hkept⟩ := done_set16 s rr (s.get16 rr + 1) 2
    refine ⟨t, (exec_ofInc16 rr s).trans ht, ?_, hkept⟩
    rw [hval]; exact BitVec.toNat_add ..
  · obtain ⟨t, ht, hval, hkept⟩ := done_set16 s rr (s.get16 rr - 1) 2
    refine ⟨t, (exec_ofDec16 rr s).trans ht, ?_, hkept⟩
    rw [hval, BitVec.toNat_sub, Nat.add_comm]; rfl

/-! ## SP plus a signed byte -/

/-- The sum with the sign-extended byte is the sum with its signed value (R193, R7). -/
theorem spPlusE_val_toNat (sp : Word) (u : Byte) :
    ((spPlusE sp u).val.toNat : Int) = ((sp.toNat : Int) + u.toInt) % 65536 := by
  have hext : ((sext16 u).toNat : Int) = u.toInt % 65536 := by
    rw [sext16, BitVec.signExtend, BitVec.toNat_ofInt]; omega
  change ((sp + sext16 u).toNat : Int) = _
  rw [BitVec.toNat_add]; omega

/-- The carries of the 8-bit sum of SP's low byte and the unsigned byte (R193). -/
theorem spPlusE_flags (sp : Word) (u : Byte) :
    (spPlusE sp u).flags false = (if sp.toNat % 16 + u.toNat % 16 > 0xF then 0x20 else 0x00) |||
      (if sp.toNat % 256 + u.toNat > 0xFF then 0x10 else 0x00) := by
  simp [Flagged16.flags, packFlags_eq_or, spPlusE]

theorem exec_addSpE8 (u : Byte) (s : State) {r : Flagged16} (hr : spPlusE s.sp u = r) : exec (.addSpE8 u) s =
    .next { s with regs := { s.regs with f := r.flags false }, sp := r.val, busy := 4 } := by
  change execAddSpE8 u s = _
  rw [execAddSpE8, State.setFlags_eq, hr]; rfl

/-- Settles O49: both instructions write the flags of one sum, then its value to SP or to HL. -/
theorem stackPointerPlusSignedByte : Obligations.StackPointerPlusSignedByte := by
  intro s u result f
  have hval := spPlusE_val_toNat s.sp u
  have hflags : (spPlusE s.sp u).flags false = f := spPlusE_flags s.sp u
  refine ⟨⟨_, exec_addSpE8 u s rfl, hval, by rw [hflags]⟩, ?_⟩
  obtain ⟨t, ht, hhl, hf, hkept⟩ := done_setFlags_set16_hl s false (spPlusE s.sp u) 3
  exact ⟨t, ht, by rw [hhl, hval], hf.trans hflags, hkept⟩

end Sys2Proof.Machine
end

section
/-! PROOFS. The rotates, shifts and bit instructions (44_rotate_shift_bit.md): what each result and the bit shifted out are
on exact integers, and what the shapes the instructions run as do with an operand that can be read or not. -/

namespace Sys2Proof.Machine

/-! ## Rotates and shifts on exact integers -/

/-- The result of a rotate or shift of the byte `v` with incoming carry `c` (R205 to R212). -/
def shiftResult (op : ShiftOp) (v c : Nat) : Nat :=
  match op with
  | .rlc => (2 * v + v / 128) % 256
  | .rrc => v / 2 + 128 * (v % 2)
  | .rl => (2 * v + c) % 256
  | .rr => v / 2 + 128 * c
  | .sla => 2 * v % 256
  | .sra => v / 2 + 128 * (v / 128)
  | .swap => 16 * (v % 16) + v / 16
  | .srl => v / 2

/-- The bit shifted out: bit 7 to the left, bit 0 to the right, none by SWAP. -/
def shiftOut (op : ShiftOp) (v : Nat) : Nat :=
  match op with
  | .rlc | .rl | .sla => v / 128
  | .rrc | .rr | .sra | .srl => v % 2
  | .swap => 0

theorem bit_getLsbD_seven (v : Byte) : bit (v.getLsbD 7) = v.toNat / 128 := by
  have h := bit_getLsbD v 7
  omega

theorem bit_getLsbD_zero (v : Byte) : bit (v.getLsbD 0) = v.toNat % 2 := by
  have h := bit_getLsbD v 0
  omega

theorem shift8_fst_toNat (op : ShiftOp) (v : Byte) (c : Bool) :
    (shift8 op v c).1.toNat = shiftResult op v.toNat (bit c) := by
  have hc := bit_le c
  cases op <;> simp only [shift8, shiftResult, BitVec.toNat_ofNat, bit_getLsbD_seven, bit_getLsbD_zero] <;> omega

theorem shift8_fst (op : ShiftOp) (v : Byte) (c : Bool) :
    (shift8 op v c).1 = BitVec.ofNat 8 (shiftResult op v.toNat (bit c)) := by
  rw [← shift8_fst_toNat, BitVec.ofNat_toNat, BitVec.setWidth_eq]

theorem bit_shift8_snd (op : ShiftOp) (v : Byte) (c : Bool) : bit (shift8 op v c).2 = shiftOut op v.toNat := by
  cases op with
  | rlc | rl | sla => exact bit_getLsbD_seven v
  | rrc | rr | sra | srl => exact bit_getLsbD_zero v
  | swap => rfl

/-- F after a rotate or shift, as the sum of its bits: N and H are cleared (R24). -/
theorem packFlags_zc (z c : Bool) :
    packFlags z false false c = BitVec.ofNat 8 ((if z then 128 else 0) + 16 * bit c) := by
  cases z <;> cases c <;> rfl

/-! ## The accumulator rotates -/

/-- A rotate of A writes A and F alone, of F's flags C alone set (R200 to R203). -/
theorem rotateA_eq (op : ShiftOp) (s : State) :
    rotateA op s = .next { s with
      regs := { s.regs with
        a := BitVec.ofNat 8 (shiftResult op s.regs.a.toNat (bit s.flagC))
        f := BitVec.ofNat 8 (16 * shiftOut op s.regs.a.toNat) }
      busy := 1 } := by
  rw [rotateA, State.setFlags_eq, packFlags_zc, bit_shift8_snd, shift8_fst, if_neg Bool.false_ne_true, Nat.zero_add]
  rfl

/-- Settles O50: each of the four is the rotate of A by its operation. -/
theorem accumulatorRotatesClearZero : Obligations.AccumulatorRotatesClearZero := by
  intro s a c i r out h
  refine ⟨?_, rfl⟩
  obtain ⟨op, hexec, rfl, rfl⟩ : ∃ op, exec i s = rotateA op s ∧ r = shiftResult op a c ∧ out = shiftOut op a := by
    simp only [List.mem_cons, List.not_mem_nil, or_false, Prod.mk.injEq] at h
    obtain ⟨rfl, rfl, rfl⟩ | ⟨rfl, rfl, rfl⟩ | ⟨rfl, rfl, rfl⟩ | ⟨rfl, rfl, rfl⟩ := h
    · exact ⟨.rlc, rfl, rfl, rfl⟩
    · exact ⟨.rrc, rfl, rfl, rfl⟩
    · exact ⟨.rl, rfl, rfl, rfl⟩
    · exact ⟨.rr, rfl, rfl, rfl⟩
  have hc : bit s.flagC = c := bit_flagC s
  rw [hexec, rotateA_eq, hc]

/-! ## The prefixed rotates and shifts -/

/-- A prefixed rotate's or shift's result with the flags it gives (R204). -/
def shiftFlagged (op : ShiftOp) (v : Byte) (c : Bool) : Flagged :=
  { val := (shift8 op v c).1, z := decide ((shift8 op v c).1 = 0), n := false, h := false, c := (shift8 op v c).2 }

theorem shiftFlagged_flags (op : ShiftOp) (v : Byte) (c : Bool) :
    (shiftFlagged op v c).flags = BitVec.ofNat 8
      ((if shiftResult op v.toNat (bit c) = 0 then 128 else 0) + 16 * shiftOut op v.toNat) := by
  have hz : (shift8 op v c).1 = 0 ↔ shiftResult op v.toNat (bit c) = 0 := by
    rw [← shift8_fst_toNat, ← BitVec.toNat_inj]; rfl
  simp only [Flagged.flags, shiftFlagged, packFlags_zc, bit_shift8_snd, decide_eq_true_eq, hz]

/-- A prefixed rotate or shift reads and writes its operand as INC and DEC do, with its own result and flags. -/
theorem exec_ofShift (op : ShiftOp) (x : R8) (s : State) :
    exec (Instr.ofShift op x) s = stepR8 (shiftFlagged op) x (prefixedCost x 2 4) s := by
  rw [exec_eq, shape_ofShift]; rfl

/-- Settles O51: the register form by its two writes, the form at HL by how its write ends. -/
theorem prefixedRotatesAndShifts : Obligations.PrefixedRotatesAndShifts := by
  intro s x b hb v c op r out h f
  obtain ⟨rfl, rfl⟩ : r = shiftResult op v c ∧ out = shiftOut op v := by
    simp only [List.mem_cons, List.not_mem_nil, or_false, Prod.mk.injEq] at h
    obtain ⟨rfl, h⟩ | ⟨rfl, h⟩ | ⟨rfl, h⟩ | ⟨rfl, h⟩ | ⟨rfl, h⟩ | ⟨rfl, h⟩ | ⟨rfl, h⟩ | ⟨rfl, h⟩ := h <;> exact h
  have hc : bit s.flagC = c := bit_flagC s
  have hval : (shiftFlagged op b s.flagC).val = BitVec.ofNat 8 (shiftResult op v c) := hc ▸ shift8_fst op b s.flagC
  have hflags : (shiftFlagged op b s.flagC).flags = f := by rw [shiftFlagged_flags, hc]
  rw [exec_ofShift]
  refine ⟨?_, ?_, ?_⟩
  · rintro q rfl
    refine ⟨_, stepR8_reg (Option.some.inj hb) rfl 2, by simp [hval], fun p hp => ?_, ?_, ?_⟩
    · rw [State.setBusy_get8, State.setFlags_get8, State.set8_get8_of_ne _ _ hp]
    · rw [State.setBusy_regs, State.setFlags_f]; exact hflags
    · rw [State.setFlags_eq, State.set8_eq]; rfl
  · rintro rfl u hu
    rw [stepR8_indHl_of_ok hb rfl (hval ▸ hu), hflags]; rfl
  · rintro rfl u hu
    exact stepR8_indHl_of_stop hb rfl (hval ▸ hu) _

/-! ## Reading an operand -/

/-- An operand that can be read: at most the count of joypad draws has moved (R93, log entry 4). -/
theorem readR8_of_operandValue {x : R8} {s : State} {b : Byte} (h : operandValue x s = some b) :
    ∃ d, readR8 x s = .ok b { s with joypadDraws := d } := by
  cases x with
  | reg r => obtain rfl := Option.some.inj h; exact ⟨s.joypadDraws, rfl⟩
  | indHl => exact ⟨_, (busRead_of_peek h).trans (congrArg (Access.ok b) (afterRead_eq s s.hl))⟩

theorem readR8_indHl_of_none {s : State} (h : busPeek true s s.hl = none) :
    readR8 .indHl s = .stop (invalidAt s.hl .read s) := busRead_of_none h

/-! ## BIT -/

theorem exec_ofBit (n : Oct) (x : R8) (s : State) :
    exec (Instr.ofBit n x) s = bitR8 n x (prefixedCost x 2 3) s := by rw [exec_eq, shape_ofBit]; rfl

/-- A bit is false where that binary digit is 0 (R7). -/
theorem getLsbD_eq_false_iff (v : Byte) (n : Nat) : v.getLsbD n = false ↔ v.toNat / 2 ^ n % 2 = 0 := by
  rw [← bit_getLsbD]; cases v.getLsbD n <;> decide

theorem packFlags_bitTest (s : State) (b : Byte) (n : Nat) :
    packFlags (!b.getLsbD n) false true s.flagC =
      (if b.toNat / 2 ^ n % 2 = 0 then 0x80 else 0x00) ||| 0x20 ||| (s.regs.f &&& 0x10) := by
  rw [and_flagC]; simp [packFlags_eq_or, getLsbD_eq_false_iff]

theorem prefixedCost_eq_ite (x : R8) (m n : Nat) : prefixedCost x m n = if x = .indHl then n else m := by
  cases x <;> rfl

/-- Settles O52: the operand is read, then F alone is written. -/
theorem bitTestsWithoutWriting : Obligations.BitTestsWithoutWriting := by
  intro s n x b hb
  obtain ⟨d, hread⟩ := readR8_of_operandValue hb
  refine ⟨_, (exec_ofBit n x s).trans (by rw [bitR8, hread]; rfl), ?_⟩
  rw [State.setFlags_eq, ← packFlags_bitTest, ← prefixedCost_eq_ite]; rfl

/-! ## RES and SET -/

/-- An operand read, changed and written back, with no flag written: what RES and SET share (R214, R215). -/
def modifyR8 (g : Byte → Byte) (x : R8) (cost : Nat) (s : State) : Result :=
  ((readR8 x s).bind fun v t => writeR8 x (g v) t).finish cost

theorem exec_ofRes (n : Oct) (x : R8) (s : State) :
    exec (Instr.ofRes n x) s = modifyR8 (· &&& ~~~bitMask n) x (prefixedCost x 2 4) s := by
  rw [exec_eq, shape_ofRes]; rfl

theorem exec_ofSet (n : Oct) (x : R8) (s : State) :
    exec (Instr.ofSet n x) s = modifyR8 (· ||| bitMask n) x (prefixedCost x 2 4) s := by
  rw [exec_eq, shape_ofSet]; rfl

section
variable {s : State} {v r : Byte} {g : Byte → Byte}

theorem modifyR8_reg {q : Reg8} (hv : s.get8 q = v) (hr : g v = r) (c : Nat) :
    modifyR8 g (.reg q) c s = .next ((s.set8 q r).setBusy c) := by subst hv hr; rfl

/-- At HL the changed byte is written in the state the read left, whether or not it differs. -/
theorem modifyR8_indHl (hv : busPeek true s s.hl = some v) (hr : g v = r) (c : Nat) :
    modifyR8 g .indHl c s = (busWrite s.hl r (afterRead s s.hl)).finish c := by
  have hhl : (afterRead s s.hl).hl = s.hl := by rw [State.hl, afterRead_regs]; rfl
  simp only [modifyR8, readR8, busRead_of_peek hv, Access.bind_ok, hr, writeR8, hhl]

theorem modifyR8_indHl_of_none (hn : busPeek true s s.hl = none) (c : Nat) :
    modifyR8 g .indHl c s = .next (invalidAt s.hl .read s) := by rw [modifyR8, readR8_indHl_of_none hn]; rfl

end

/-- Settles O53: RES and SET are one read, change and write with their own change; a read at HL that faults ends each of
the four. -/
theorem resAndSetChangeOneBit : Obligations.ResAndSetChangeOneBit := by
  refine ⟨fun s n x b hb i v h => ?_, fun s n op hn i h => ?_⟩
  · obtain ⟨g, hexec, hg⟩ : ∃ g, exec i s = modifyR8 g x (prefixedCost x 2 4) s ∧ g b = v := by
      simp only [List.mem_cons, List.not_mem_nil, or_false, Prod.mk.injEq] at h
      obtain ⟨rfl, rfl⟩ | ⟨rfl, rfl⟩ := h
      · exact ⟨_, exec_ofRes n x s, rfl⟩
      · exact ⟨_, exec_ofSet n x s, rfl⟩
    rw [hexec]
    refine ⟨?_, ?_, ?_⟩
    · rintro q rfl
      refine ⟨_, modifyR8_reg (Option.some.inj hb) hg 2, by simp, fun p hp => ?_, s.set8_f q v, ?_⟩
      · rw [State.setBusy_get8, State.set8_get8_of_ne _ _ hp]
      · rw [State.set8_eq]; rfl
    · rintro rfl u hu
      rw [modifyR8_indHl hb hg, hu]; rfl
    · rintro rfl u hu
      rw [modifyR8_indHl hb hg, hu]; rfl
  · simp only [List.mem_cons, List.not_mem_nil, or_false] at h
    obtain rfl | rfl | rfl | rfl := h
    · rw [exec_ofShift, stepR8_indHl_of_none hn]
    · rw [exec_ofBit, bitR8, readR8_indHl_of_none hn]; rfl
    · rw [exec_ofRes, modifyR8_indHl_of_none hn]
    · rw [exec_ofSet, modifyR8_indHl_of_none hn]

end Sys2Proof.Machine
end

section
/-! PROOFS. Jumps, calls and returns (45_control.md): a transfer ends with the pc at its target, or stops where its stack
access does; a conditional transfer is the transfer itself where its condition holds, and its cost alone where not. -/

namespace Sys2Proof.Machine

/-! ## Conditions -/

/-- The flag each condition tests is `Cond(cc)` (R96). -/
theorem condHolds_of_mem {s : State} {cc : Cond} {taken : Bool}
    (h : (cc, taken) ∈ [(Cond.nz, !s.regs.f.getLsbD 7), (.z, s.regs.f.getLsbD 7), (.nc, !s.regs.f.getLsbD 4),
      (.c, s.regs.f.getLsbD 4)]) : condHolds cc s = taken := by
  simp only [List.mem_cons, List.not_mem_nil, or_false, Prod.mk.injEq] at h
  obtain ⟨rfl, rfl⟩ | ⟨rfl, rfl⟩ | ⟨rfl, rfl⟩ | ⟨rfl, rfl⟩ := h <;> rfl

/-! ## Jumps -/

/-- The sum with the sign-extended displacement is the sum with its signed value (R233, R7). -/
theorem relTarget_eq_ofInt (e : Byte) (s : State) : relTarget e s = BitVec.ofInt 16 ((s.pc.toNat : Int) + e.toInt) := by
  have hsum : ((relTarget e s).toNat : Int) = ((s.pc.toNat : Int) + e.toInt) % 65536 := spPlusE_val_toNat s.pc e
  refine BitVec.eq_of_toNat_eq ?_
  rw [BitVec.toNat_ofInt]
  omega

theorem jumpIf_eq (taken : Bool) (target : Word) (m n : Nat) (s : State) : jumpIf taken target m n s =
    .next (if taken then { s with pc := target, busy := n } else { s with busy := m }) := by cases taken <;> rfl

/-- Settles O54: the relative jumps by their target's signed sum, the conditional ones by whether they are taken. -/
theorem jumpsTransferControl : Obligations.JumpsTransferControl := by
  intro s nn e rel
  have hrel : relTarget e s = rel := relTarget_eq_ofInt e s
  refine ⟨rfl, rfl, ?_, fun cc taken hmem => ?_⟩
  · rw [← hrel]; rfl
  · have hcond := condHolds_of_mem hmem
    rw [exec_eq, exec_eq, shape_ofJp, shape_ofJr, ← hcond, ← hrel]
    exact ⟨jumpIf_eq _ nn 3 4 s, jumpIf_eq _ (relTarget e s) 2 3 s⟩

/-! ## Calls -/

theorem exec_callA16 (nn : Word) (s : State) : exec (.callA16 nn) s = (callTo nn s).finish 6 := rfl

theorem exec_ofRst (y : Oct) (s : State) :
    exec (Instr.ofRst y) s = (callTo (BitVec.ofNat 16 (8 * y.val)) s).finish 4 := by rw [exec_eq, shape_ofRst]; rfl

theorem exec_ofCall_of_taken {cc : Cond} {s : State} (h : condHolds cc s = true) (nn : Word) :
    exec (Instr.ofCall cc nn) s = (callTo nn s).finish 6 := by rw [exec_eq, shape_ofCall, Shape.run, callIf, if_pos h]

theorem exec_ofCall_of_not_taken {cc : Cond} {s : State} (h : condHolds cc s = false) (nn : Word) :
    exec (Instr.ofCall cc nn) s = .next { s with busy := 3 } := by
  rw [exec_eq, shape_ofCall, Shape.run, callIf, h]; rfl

section
variable {s t : State}

theorem callTo_of_push_ok (h : push16 s.pc s = .ok () t) (target : Word) : callTo target s = .ok () (t.setPc target) := by
  rw [callTo, h]; rfl

theorem callTo_of_push_stop (h : push16 s.pc s = .stop t) (target : Word) : callTo target s = .stop t := by
  rw [callTo, h]; rfl

/-- A push that faults leaves the pc (R301). -/
theorem pc_of_push16_stop {v : Word} (h : push16 v s = .stop t) : t.pc = s.pc := by
  have hframe := push16_frame (.refl { sp := True } s) trivial v
  rw [h] at hframe
  exact hframe.pc id

end

/-- A call with its stack in RAM completes, and the return address lies little-endian at the new SP (R140, R235). -/
theorem callTo_finish_of_plainRam {s : State} (hhigh : plainRam s (s.sp - 1) = true)
    (hlow : plainRam s (s.sp - 2) = true) (target : Word) (cost : Nat) :
    ∃ t, (callTo target s).finish cost = .next t ∧
      t = { s with ram := t.ram, sp := s.sp - 2, pc := target, busy := cost } ∧
      (s.ram.wf = true → ramKey (s.sp - 1) ≠ ramKey (s.sp - 2) →
        busPeek true t (s.sp - 1) = some (hi s.pc) ∧ busPeek true t (s.sp - 2) = some (lo s.pc)) := by
  rw [callTo_of_push_ok (push16_of_plainRam s.pc hhigh hlow)]
  refine ⟨_, rfl, rfl, fun hwf hne => ?_⟩
  exact ⟨busPeek_pushedToRam_high s.pc hwf hhigh hne, busPeek_pushedToRam_low s.pc hwf hlow⟩

/-- Settles O55: each form is the push and the transfer, a call not taken its cost alone. -/
theorem callsPushTheReturnAddress : Obligations.CallsPushTheReturnAddress := by
  intro s nn y
  refine ⟨fun t ht => ⟨?_, ?_⟩, fun t ht => ⟨?_, ?_, pc_of_push16_stop ht⟩, fun cc taken hmem => ?_⟩
  · rw [exec_callA16, callTo_of_push_ok ht]; rfl
  · rw [exec_ofRst, callTo_of_push_ok ht]; rfl
  · rw [exec_callA16, callTo_of_push_stop ht]; rfl
  · rw [exec_ofRst, callTo_of_push_stop ht]; rfl
  · have hcond := condHolds_of_mem hmem
    refine ⟨?_, ?_, ?_, fun hhigh hlow i target cost h => ?_⟩
    · rintro rfl
      exact exec_ofCall_of_not_taken hcond nn
    · rintro rfl t ht
      rw [exec_ofCall_of_taken hcond, callTo_of_push_ok ht]; rfl
    · rintro rfl t ht
      rw [exec_ofCall_of_taken hcond, callTo_of_push_stop ht]; rfl
    · have hexec : exec i s = (callTo target s).finish cost := by
        simp only [List.mem_cons, List.not_mem_nil, or_false, Prod.mk.injEq] at h
        obtain (⟨rfl, rfl, rfl⟩ | ⟨rfl, rfl, rfl⟩) | ⟨rfl, rfl, rfl, rfl⟩ := h
        · exact exec_callA16 target s
        · exact exec_ofRst y s
        · exact exec_ofCall_of_taken hcond target
      rw [hexec, ← hi_eq_ofNat, ← lo_eq_ofNat]
      exact callTo_finish_of_plainRam hhigh hlow target cost

/-! ## Returns -/

theorem exec_ret (s : State) : exec .ret s = (popPc s).finish 4 := rfl

theorem exec_reti (s : State) : exec .reti s = (returnFromInterrupt s).finish 4 := rfl

theorem exec_ofRet_of_taken {cc : Cond} {s : State} (h : condHolds cc s = true) :
    exec (Instr.ofRet cc) s = (popPc s).finish 5 := by rw [exec_eq, shape_ofRet, Shape.run, returnIf, if_pos h]

theorem exec_ofRet_of_not_taken {cc : Cond} {s : State} (h : condHolds cc s = false) :
    exec (Instr.ofRet cc) s = .next { s with busy := 2 } := by
  rw [exec_eq, shape_ofRet, Shape.run, returnIf, h]; rfl

section
variable {s t : State} {v : Word}

theorem popPc_of_pop_ok (h : pop16 s = .ok v t) : popPc s = .ok () (t.setPc v) := by rw [popPc, h]; rfl

theorem popPc_of_pop_stop (h : pop16 s = .stop t) : popPc s = .stop t := by rw [popPc, h]; rfl

/-- The parameters that RETI reads after its pop are those before it. -/
theorem params_of_pop16_ok (h : pop16 s = .ok v t) : t.params = s.params := by
  have hframe := pop16_frame (.refl { sp := True } s) trivial
  rw [h] at hframe
  exact hframe.kept.params

/-- RETI's effect is its pop, then the latch (R242). -/
theorem returnFromInterrupt_of_delayed (hmode : s.params.retiMode = .delayed) (h : pop16 s = .ok v t) :
    returnFromInterrupt s = .ok () ((t.setPc v).setEi true) := by
  rw [returnFromInterrupt, h, Access.bind_ok, params_of_pop16_ok h, hmode]

/-- Under the immediate mode it is IME that the pop is followed by. -/
theorem returnFromInterrupt_of_immediate (hmode : s.params.retiMode = .immediate) (h : pop16 s = .ok v t) :
    returnFromInterrupt s = .ok () ((t.setPc v).setIme true) := by
  rw [returnFromInterrupt, h, Access.bind_ok, params_of_pop16_ok h, hmode]

theorem returnFromInterrupt_of_pop_stop (h : pop16 s = .stop t) : returnFromInterrupt s = .stop t := by
  rw [returnFromInterrupt, h]; rfl

/-- A pop that faults leaves the pc, IME and the latch (R301). -/
theorem control_of_pop16_stop (h : pop16 s = .stop t) : t.pc = s.pc ∧ t.ime = s.ime ∧ t.eiPending = s.eiPending := by
  have hframe := pop16_frame (.refl { sp := True } s) trivial
  rw [h] at hframe
  exact ⟨hframe.pc id, hframe.ime id, hframe.ei id⟩

theorem exec_ret_of_pop_ok (h : pop16 s = .ok v t) : exec .ret s = .next { t with pc := v, busy := 4 } := by
  rw [exec_ret, popPc_of_pop_ok h]; rfl

theorem exec_reti_of_delayed (hmode : s.params.retiMode = .delayed) (h : pop16 s = .ok v t) :
    exec .reti s = .next { t with pc := v, eiPending := true, busy := 4 } := by
  rw [exec_reti, returnFromInterrupt_of_delayed hmode h]; rfl

theorem exec_reti_of_immediate (hmode : s.params.retiMode = .immediate) (h : pop16 s = .ok v t) :
    exec .reti s = .next { t with pc := v, ime := true, busy := 4 } := by
  rw [exec_reti, returnFromInterrupt_of_immediate hmode h]; rfl

theorem exec_ofRet_of_pop_ok {cc : Cond} (hcond : condHolds cc s = true) (h : pop16 s = .ok v t) :
    exec (Instr.ofRet cc) s = .next { t with pc := v, busy := 5 } := by
  rw [exec_ofRet_of_taken hcond, popPc_of_pop_ok h]; rfl

/-- In either mode RETI writes the latch and IME at most, beside its pop. -/
theorem exec_reti_of_pop_ok (h : pop16 s = .ok v t) :
    ∃ ime ei, exec .reti s = .next { t with pc := v, ime := ime, eiPending := ei, busy := 4 } := by
  cases hmode : s.params.retiMode with
  | delayed => exact ⟨_, _, exec_reti_of_delayed hmode h⟩
  | immediate => exact ⟨_, _, exec_reti_of_immediate hmode h⟩

end

/-- A pop of two bytes that can be read moves SP past them; besides, the count of joypad draws may have moved. -/
theorem pop16_eq_ok {s : State} {l h : Byte} (hl : busPeek true s s.sp = some l)
    (hh : busPeek true s (s.sp + 1) = some h) :
    ∃ d, pop16 s = .ok (word h l) { s with sp := s.sp + 2, joypadDraws := d } := by
  refine ⟨(afterRead (afterRead s s.sp) (s.sp + 1)).joypadDraws, ?_⟩
  rw [pop16_of_peek hl hh, afterRead_eq _ (s.sp + 1), afterRead_eq s s.sp]; rfl

/-- Settles O56: each form is the pop and the transfer, RETI by its mode, a return not taken its cost alone. -/
theorem returnsPopThePc : Obligations.ReturnsPopThePc := by
  intro s
  refine ⟨fun v t ht => ⟨exec_ret_of_pop_ok ht, ?_, ?_⟩, fun t ht => ⟨?_, ?_, control_of_pop16_stop ht⟩,
    fun cc taken hmem => ?_⟩
  · exact fun hmode => exec_reti_of_delayed hmode ht
  · exact fun hmode => exec_reti_of_immediate hmode ht
  · rw [exec_ret, popPc_of_pop_stop ht]; rfl
  · rw [exec_reti, returnFromInterrupt_of_pop_stop ht]; rfl
  · have hcond := condHolds_of_mem hmem
    refine ⟨?_, ?_, ?_, fun l h hl hh i cost hi => ?_⟩
    · rintro rfl
      exact exec_ofRet_of_not_taken hcond
    · rintro rfl v t ht
      exact exec_ofRet_of_pop_ok hcond ht
    · rintro rfl t ht
      rw [exec_ofRet_of_taken hcond, popPc_of_pop_stop ht]; rfl
    · obtain ⟨d, hpop⟩ := pop16_eq_ok hl hh
      have hexec : ∃ ime ei, exec i s = .next
          { s with pc := word h l, sp := s.sp + 2, ime := ime, eiPending := ei, busy := cost, joypadDraws := d } := by
        simp only [List.mem_cons, List.not_mem_nil, or_false, Prod.mk.injEq] at hi
        obtain (⟨rfl, rfl⟩ | ⟨rfl, rfl⟩) | ⟨rfl, rfl, rfl⟩ := hi
        · exact ⟨_, _, exec_ret_of_pop_ok hpop⟩
        · exact exec_reti_of_pop_ok hpop
        · exact ⟨_, _, exec_ofRet_of_pop_ok hcond hpop⟩
      obtain ⟨ime, ei, hexec⟩ := hexec
      exact ⟨_, hexec, word_toNat h l, rfl⟩

end Sys2Proof.Machine
end

section
/-! PROOFS. A tick that dispatches nothing (60_exceptions.md R340), and with it what HALT and STOP wait for
(46_system.md R251 to R253). -/

namespace Sys2Proof.Machine

/-! ## The wake-up and the devices, as record updates -/

theorem pendingEnabled_toNat (s : State) : (pendingEnabled s).toNat = s.ie.toNat &&& s.ifReg.toNat &&& 0x1F := by
  have hif : s.ifReg.toNat % 2 ^ 5 = s.ifReg.toNat := Nat.mod_eq_of_lt s.ifReg.isLt
  have hmask : ∀ n, n &&& 0x1F = n % 2 ^ 5 := fun n => Nat.and_two_pow_sub_one_eq_mod n 5
  rw [hmask, Nat.and_mod_two_pow, hif, pendingEnabled, BitVec.toNat_and, BitVec.extractLsb'_toNat]
  rfl

/-- No enabled source is pending, as the statements write it (R320). -/
theorem pendingEnabled_eq_zero_iff (s : State) :
    pendingEnabled s = 0 ↔ s.ie.toNat &&& s.ifReg.toNat &&& 0x1F = 0 := by
  rw [← pendingEnabled_toNat, ← BitVec.toNat_inj]; rfl

/-- A mode that ends on a condition: `set` writes the mode, and `s` is the state in which it stands. -/
theorem ite_mode_ends {s : State} {set : Bool → State} {mode : Bool} (h : set mode = s) (ends : Bool) :
    (if mode && ends then set false else s) = set (mode && !ends) := by
  subst h
  cases mode <;> cases ends <;> rfl

/-- The halt lasts while no enabled source is pending, the stop until the joypad's request under `HaltUntilJoypad`
(R253, R323). -/
theorem wakeUp_eq_modes (s : State) : wakeUp s = { s with
    halted := s.halted && decide (s.ie.toNat &&& s.ifReg.toNat &&& 0x1F = 0)
    stopped := s.stopped && !(decide (s.params.stopMode = .haltUntilJoypad) && s.ifReg.getLsbD 4) } := by
  have hhalted (b : Bool) : (if s.halted && b then s.setHalted false else s) = s.setHalted (s.halted && !b) :=
    ite_mode_ends (set := s.setHalted) rfl b
  have hstopped (u : State) (b : Bool) :
      (if u.stopped && b then u.setStopped false else u) = u.setStopped (u.stopped && !b) :=
    ite_mode_ends (set := u.setStopped) rfl b
  unfold wakeUp
  simp only [hhalted, Bool.and_assoc, hstopped, ne_eq, pendingEnabled_eq_zero_iff, decide_not, Bool.not_not]
  rfl

theorem ite_or (b : Bool) (v m : BitVec 5) : (if b then v ||| m else v) = v ||| (if b then m else 0) := by
  cases b
  · exact BitVec.or_zero.symm
  · rfl

/-- The devices step and OR their interrupts into IF (R340, R342). -/
theorem deviceStep_eq_signals (s : State) : deviceStep s = { s with
    ppu := (rendererStep s).1
    timer := (timerAdvance s.params.timerCyclesPerStep s.timer).1
    frameBit := (rendererStep s).2.vb
    ifReg := s.ifReg ||| (if (rendererStep s).2.vb then 0x01 else 0) ||| (if (rendererStep s).2.st then 0x02 else 0) |||
      (if (timerAdvance s.params.timerCyclesPerStep s.timer).2 then 0x04 else 0) } := by
  unfold deviceStep
  simp only [ite_raiseInt, ite_or]
  rfl

/-- The host's move in the gap, and the devices of the tick after it: all that a tick which dispatches nothing does
beside the wake-up and the accounting. -/
def afterDevices (s : State) : State := { hostGap s with
  ppu := (rendererStep s).1
  timer := (timerAdvance s.params.timerCyclesPerStep s.timer).1
  frameBit := (rendererStep s).2.vb
  ifReg := (hostGap s).ifReg ||| (if (rendererStep s).2.vb then 0x01 else 0) |||
    (if (rendererStep s).2.st then 0x02 else 0) |||
    (if (timerAdvance s.params.timerCyclesPerStep s.timer).2 then 0x04 else 0) }

theorem afterDevices_halted (s : State) : (afterDevices s).halted = s.halted := by
  obtain ⟨irq, hg⟩ := hostGap_eq s
  rw [afterDevices, hg]

theorem afterDevices_stopped (s : State) : (afterDevices s).stopped = s.stopped := by
  obtain ⟨irq, hg⟩ := hostGap_eq s
  rw [afterDevices, hg]

theorem hostGap_setStopped (s : State) (b : Bool) : hostGap (s.setStopped b) = (hostGap s).setStopped b := by
  unfold hostGap
  rw [State.setStopped_joypadMoves]
  split <;> rfl

/-! ## A tick that dispatches nothing -/

section
variable {s : State} {halted stopped : Bool} (hrun : s.outcome = .running)
  (hhalted : (s.halted && decide ((hostGap s).ie.toNat &&& (hostGap s).ifReg.toNat &&& 0x1F = 0)) = halted)
  (hstopped : (s.stopped && !(decide (s.params.stopMode = .haltUntilJoypad) && (hostGap s).ifReg.getLsbD 4)) = stopped)

include hhalted hstopped

theorem wakeUp_hostGap_eq : wakeUp (hostGap s) = { hostGap s with halted := halted, stopped := stopped } := by
  subst hhalted hstopped
  rw [wakeUp_eq_modes]
  obtain ⟨irq, hg⟩ := hostGap_eq s
  rw [hg]

theorem deviceStep_wakeUp_hostGap :
    deviceStep (wakeUp (hostGap s)) = { afterDevices s with halted := halted, stopped := stopped } := by
  rw [deviceStep_eq_signals, wakeUp_hostGap_eq hhalted hstopped, afterDevices]
  obtain ⟨irq, hg⟩ := hostGap_eq s
  rw [hg]; rfl

include hrun

/-- Away from a dispatch point the devices and the accounting alone follow the wake-up. -/
theorem step_of_no_dispatch (h : halted = true ∨ stopped = true ∨ 0 < s.busy) :
    step s = .next (accounting { afterDevices s with halted := halted, stopped := stopped }) := by
  have hdispatch : dispatchPhase exec (wakeUp (hostGap s)) = .next (wakeUp (hostGap s)) := by
    refine if_neg ?_
    obtain ⟨irq, hg⟩ := hostGap_eq s
    rw [wakeUp_hostGap_eq hhalted hstopped, hg]
    simp only [atDispatchPoint, Bool.and_eq_true, Bool.not_eq_true', decide_eq_true_eq]
    rintro ⟨⟨rfl, rfl⟩, hb⟩
    simp [hb] at h
  have hwoken : (wakeUp (hostGap s)).outcome = .running := by
    obtain ⟨irq, hg⟩ := hostGap_eq s
    rw [wakeUp_eq_modes, hg]; exact hrun
  simp only [step, tick, hrun, hdispatch, hwoken, if_true, deviceStep_wakeUp_hostGap hhalted hstopped]

/-- A halted or stopped CPU counts nothing (R252, R253). -/
theorem step_of_waiting (h : halted = true ∨ stopped = true) :
    step s = .next { afterDevices s with halted := halted, stopped := stopped } := by
  rw [step_of_no_dispatch hrun hhalted hstopped (h.imp_right .inl), accounting, if_pos (Bool.or_eq_true_iff.2 h)]

/-- A CPU in the middle of an instruction counts (R31, R340). -/
theorem step_of_busy (hh : halted = false) (hs : stopped = false) (hbusy : 0 < s.busy) :
    step s = .next { afterDevices s with
      halted := halted, stopped := stopped, busy := s.busy - 1, clock := s.clock + 1 } := by
  rw [step_of_no_dispatch hrun hhalted hstopped (.inr (.inr hbusy)), accounting, if_neg (by simp [hh, hs]), afterDevices]
  obtain ⟨irq, hg⟩ := hostGap_eq s
  rw [hg]

end

/-- Settles O9: a halt that lasts leaves a tick with its devices alone, and one that ends at `busy` 1 a busy tick. -/
theorem haltedCpuWaitsForAnEnabledInterrupt : Obligations.HaltedCpuWaitsForAnEnabledInterrupt := by
  intro s hrun hhalted hstopped before p r t devices
  have hs : (s.stopped && !(decide (s.params.stopMode = .haltUntilJoypad) && before.ifReg.getLsbD 4)) =
      (afterDevices s).stopped := by rw [afterDevices_stopped, hstopped]; rfl
  constructor
  · intro hp
    have hh : (s.halted && decide (p = 0)) = (afterDevices s).halted := by
      rw [afterDevices_halted, decide_eq_true hp, Bool.and_true]
    exact step_of_waiting hrun hh hs (.inl ((afterDevices_halted s).trans hhalted))
  · intro hp hbusy
    have hh : (s.halted && decide (p = 0)) = false := by rw [decide_eq_false hp, Bool.and_false]
    rw [step_of_busy hrun hh hs rfl ((afterDevices_stopped s).trans hstopped) (by omega), hbusy]; rfl

/-- A joypad request makes a stopped CPU go on as one that was not stopped, whatever IE and IME are (R253). -/
theorem step_setStopped_of_joypad {s : State} (hmode : s.params.stopMode = .haltUntilJoypad)
    (hjoypad : (hostGap s).ifReg.getLsbD 4 = true) : step (s.setStopped false) = step s := by
  have hwoken : wakeUp (hostGap (s.setStopped false)) = wakeUp (hostGap s) := by
    have hparams : (hostGap s).params = s.params := (hostGap_lasts s).params
    rw [hostGap_setStopped, wakeUp_eq_modes (hostGap s), wakeUp_eq_modes]
    simp [hparams, hmode, hjoypad, State.setStopped]
  simp only [step, tick, hwoken, State.setStopped_outcome]

/-- Settles O60: a stop that lasts leaves a tick with its devices alone, and one that ends goes on as if there were none,
at `busy` 1 with a busy tick. -/
theorem stoppedCpuWaitsForTheJoypad : Obligations.StoppedCpuWaitsForTheJoypad := by
  intro s hrun hstopped before p r t devices
  constructor
  · intro hstay
    have hs : (s.stopped && !(decide (s.params.stopMode = .haltUntilJoypad) && before.ifReg.getLsbD 4)) =
        (afterDevices s).stopped := by
      rw [afterDevices_stopped, hstopped]
      obtain hmode | hjoypad := hstay
      · rw [hmode]; rfl
      · rw [hjoypad, Bool.and_false]; rfl
    exact step_of_waiting hrun rfl hs (.inr ((afterDevices_stopped s).trans hstopped))
  · intro hmode hjoypad
    have hs : (s.stopped && !(decide (s.params.stopMode = .haltUntilJoypad) && before.ifReg.getLsbD 4)) = false := by
      rw [hmode, hjoypad]; exact Bool.and_false _
    refine ⟨(step_setStopped_of_joypad hmode hjoypad).symm, fun hhalted hbusy => ⟨?_, ?_⟩⟩
    · have hh : (s.halted && decide (p = 0)) = false := by rw [hhalted]; rfl
      rw [step_of_busy hrun rfl hs hh rfl (by omega), hbusy]; rfl
    · simp only [devices, BitVec.getLsbD_or, hjoypad, Bool.true_or]

end Sys2Proof.Machine
end

section
/-! PROOFS. NOP, HALT, STOP, DI, EI, the 0xCB row and the undefined opcodes (46_system.md). -/

namespace Sys2Proof.Machine

theorem exec_stop (second : Byte) (s : State) : exec (.stop second) s = execStop second s := rfl

/-- Settles O57: STOP by its mode, the wake-up by its two modes' ends. -/
theorem systemInstructionsWriteControlState : Obligations.SystemInstructionsWriteControlState := by
  intro s second
  refine ⟨rfl, rfl, rfl, rfl, fun hmode => ?_, fun hmode => ?_, fun hs => ?_⟩
  · rw [exec_stop, execStop, hmode]; rfl
  · rw [exec_stop, execStop, hmode]; rfl
  · rw [wakeUp_eq_modes, hs]; exact Bool.true_and _

/-- Settles O58: both run as the shape that the second byte names, and what the map decodes to is well formed. -/
theorem prefixRunsThePrefixedInstruction : Obligations.PrefixRunsThePrefixedInstruction := by
  intro op2 b2 s
  have hexec : exec (decodeAt 0xCB op2 b2) s = exec (.prefixCb op2) s := by
    rw [decodeAt_prefix, exec_eq, exec_eq, shape_decodePrefixed]; rfl
  obtain ⟨t, ht, -⟩ := instructionsNeverStepTheDevices (.prefixCb op2) s
  exact ⟨t, ht, hexec.trans ht, (decodeAt_encodesAs 0xCB op2 b2).wellFormed⟩

/-! ## A tick that ends the run -/

theorem exec_of_shape_undefined {i : Instr} {op : Byte} (h : shape i = .undefined op) (s : State) :
    exec i s = .next { s with outcome := .faulted (.undefinedOpcode op (s.pc - 1)) } := by rw [exec_eq, h]; rfl

/-- The latch is not committed after the run has ended (R301). -/
theorem commitLatch_of_not_running {s : State} (h : s.outcome ≠ .running) (before : Bool) : commitLatch before s = s := by
  rw [commitLatch, decide_eq_false h, Bool.and_false]; rfl

/-- A one-byte instruction runs on the state after its opcode's fetch (R91). -/
theorem fetchAndExecute_of_length_one {s : State} {op : Byte} (hop : busPeek true s s.pc = some op)
    (hlen : lengthOf op = 1) : fetchAndExecute exec s = exec (decodeBytes [op]) (fetched s 1) := by
  unfold fetchAndExecute
  rw [fetch8_eq_fetched hop, Access.bind_ok, hlen]; rfl

/-- An instruction that ends the run ends its tick: no latch, devices or accounting follow (R301). -/
theorem step_of_fetchAndExecute_ended {s t : State} (hrun : s.outcome = .running)
    (hpoint : atDispatchPoint (wakeUp (hostGap s)) = true) (hnone : interruptSelect (wakeUp (hostGap s)) = none)
    (hexec : fetchAndExecute exec (wakeUp (hostGap s)) = .next t) (hend : t.outcome ≠ .running) : step s = .next t := by
  simp only [step, tick, hrun, dispatchPhase, hpoint, if_true, hnone, hexec, commitLatch_of_not_running hend, if_neg hend]

/-- Settles O59: each opcode decodes to its own instruction, of length one, whose record ends the tick. -/
theorem undefinedOpcodesEndTheRun : Obligations.UndefinedOpcodesEndTheRun := by
  intro op i h
  obtain ⟨hshape, hlen, hdecode⟩ : shape i = .undefined op ∧ lengthOf op = 1 ∧ decodeBytes [op] = i := by
    simp only [List.mem_cons, List.not_mem_nil, or_false, Prod.mk.injEq] at h
    obtain ⟨rfl, rfl⟩ | ⟨rfl, rfl⟩ | ⟨rfl, rfl⟩ | ⟨rfl, rfl⟩ | ⟨rfl, rfl⟩ | ⟨rfl, rfl⟩ | ⟨rfl, rfl⟩ | ⟨rfl, rfl⟩ |
      ⟨rfl, rfl⟩ | ⟨rfl, rfl⟩ | ⟨rfl, rfl⟩ := h <;> exact ⟨rfl, rfl, rfl⟩
  refine ⟨exec_of_shape_undefined hshape, ?_⟩
  intro s w hrun hpoint hnone hop
  obtain ⟨-, -, hpc, -⟩ := wakeUp_hostGap_cpu s
  have hnext : (fetched w 1).pc = s.pc + 1 := congrArg (· + 1) hpc
  have hopPc : (fetched w 1).pc - 1 = s.pc := by rw [hnext]; exact add_sub_cancel_right _ _
  have hfetch := fetchAndExecute_of_length_one (hpc ▸ hop) hlen
  rw [hdecode, exec_of_shape_undefined hshape, hopPc] at hfetch
  refine ⟨_, step_of_fetchAndExecute_ended hrun hpoint hnone hfetch nofun, ?_⟩
  rw [← hnext]; rfl

end Sys2Proof.Machine
end

section
/-! PROOFS. The phases of one tick put together (60_exceptions.md R340): the host's gap, the interrupt or the
instruction at a dispatch point, and the devices. -/

namespace Sys2Proof.Machine

/-! ## The gap, the devices, and a tick in the middle of an instruction -/

/-- The host's gap takes its next move, which ORs the joypad's request into IF (R312). -/
theorem hostGap_eq_request (s : State) : hostGap s = { s with
    joypadMoves := s.joypadMoves.tail
    frameBit := false
    ifReg := s.ifReg ||| if s.joypadMoves.head? = some true then 0x10 else 0 } := by
  cases hmoves : s.joypadMoves with
  | nil => simp [hostGap, hmoves]
  | cons move moves =>
    cases move <;> simp [hostGap, hmoves, State.raiseInt, State.setIf, IntSource.mask, IntSource.index]

theorem wakeUp_hostGap_outcome (s : State) : (wakeUp (hostGap s)).outcome = s.outcome := by
  rw [wakeUp_eq_modes, hostGap_eq_request]

/-- Settles O7, by the equation of the devices' step. -/
theorem devicesStepAndRaiseTheirInterrupts : Obligations.DevicesStepAndRaiseTheirInterrupts :=
  fun s => deviceStep_eq_signals s

/-- Settles O8: neither mode is there for the wake-up to end, so the tick is the gap, the devices and the count. -/
theorem busyTickOnlyCountsAndStepsDevices : Obligations.BusyTickOnlyCountsAndStepsDevices := by
  intro s hrun hhalted hstopped hbusy r t
  have hh : ∀ b, (s.halted && b) = false := fun b => by rw [hhalted]; rfl
  have hs : ∀ b, (s.stopped && b) = false := fun b => by rw [hstopped]; rfl
  rw [step_of_busy hrun (hh _) (hs _) rfl rfl hbusy, afterDevices, hostGap_eq_request, hhalted, hstopped]

/-! ## A tick at a dispatch point -/

section
variable {s t w : State} {n : IntSource}

/-- A running machine's tick goes on after steps (2) and (3) only where these have not ended the run (R301). -/
theorem step_of_dispatchPhase (hrun : s.outcome = .running)
    (h : dispatchPhase exec (wakeUp (hostGap s)) = .next t) :
    step s = if t.outcome = .running then .next (accounting (deviceStep t)) else .next t := by
  simp only [step, tick, hrun, h]

theorem dispatchPhase_of_interrupt (hpoint : atDispatchPoint w = true) (hn : interruptSelect w = some n) :
    dispatchPhase exec w = interruptDispatch n w := by
  rw [dispatchPhase, if_pos hpoint, hn]

theorem dispatchPhase_of_instruction (hpoint : atDispatchPoint w = true) (hnone : interruptSelect w = none)
    (h : fetchAndExecute exec w = .next t) : dispatchPhase exec w = .next (commitLatch w.eiPending t) := by
  rw [dispatchPhase, if_pos hpoint, hnone, h]

end

/-! ## Which interrupt is selected -/

theorem lowestSource_eq_none_iff (p : BitVec 5) : lowestSource p = none ↔ p = 0 := by
  revert p; decide

theorem lowestSource_eq_some_iff (p : BitVec 5) (n : IntSource) :
    lowestSource p = some n ↔ p.getLsbD n.index = true ∧ ∀ m < n.index, p.getLsbD m = false := by
  cases n <;> revert p <;> decide

/-- Settles O11: the bits of the enabled and pending sources are those of `pendingEnabled`. -/
theorem interruptSelectionTakesTheLowestBit : Obligations.InterruptSelectionTakesTheLowestBit := by
  intro s p
  have hbit : ∀ m, p.testBit m = (pendingEnabled s).getLsbD m := fun m => by
    rw [← BitVec.testBit_toNat, pendingEnabled_toNat]
  simp only [hbit]
  cases hime : s.ime with
  | false => simp [interruptSelect, hime]
  | true =>
    have hselect : interruptSelect s = lowestSource (pendingEnabled s) := if_pos hime
    rw [hselect, lowestSource_eq_none_iff, pendingEnabled_eq_zero_iff]
    simp only [lowestSource_eq_some_iff]
    simp [p]

/-! ## Taking an interrupt -/

section
variable {s t : State}

theorem outcome_of_busWrite_ok {a : Word} {v : Byte} (h : busWrite a v s = .ok () t) : t.outcome = s.outcome := by
  have ho := (busWrite_tame a v s).outcomeFrom
  rw [h] at ho
  exact ho

theorem outcome_of_busWrite_stop {a : Word} {v : Byte} (h : busWrite a v s = .stop t) : t.outcome ≠ .running := by
  have ho := (busWrite_tame a v s).outcomeFrom
  rw [h] at ho
  exact ho

/-- The dispatch of a source is the push of the pc, then the vector and the control state (R321). -/
theorem interruptDispatch_of_push_ok (n : IntSource) (h : push16 s.pc s = .ok () t) :
    interruptDispatch n s = .next { t with
      pc := n.vector, ime := false, eiPending := false, ifReg := t.ifReg &&& ~~~n.mask, busy := 5 } := by
  rw [interruptDispatch, callTo_of_push_ok h]; rfl

theorem interruptDispatch_of_push_stop (n : IntSource) (h : push16 s.pc s = .stop t) :
    interruptDispatch n s = .next t := by
  rw [interruptDispatch, callTo_of_push_stop h]; rfl

end

/-- Settles O12, by which of the push's two writes is good. -/
theorem interruptTickPushesPcAndVectors : Obligations.InterruptTickPushesPcAndVectors := by
  intro s n w hrun hpoint hn
  have hwrun : w.outcome = .running := (wakeUp_hostGap_outcome s).trans hrun
  have hstep : ∀ t, interruptDispatch n w = .next t →
      step s = if t.outcome = .running then .next (accounting (deviceStep t)) else .next t := fun t ht =>
    step_of_dispatchPhase hrun ((dispatchPhase_of_interrupt hpoint hn).trans ht)
  rw [← hi_eq_ofNat, ← lo_eq_ofNat]
  refine ⟨fun t1 t2 h1 h2 => ?_, fun t1 h1 => ?_, fun t1 t2 h1 h2 => ?_⟩
  · have hpush : push16 w.pc w = .ok () t2 := (push16_of_ok h1).trans h2
    have hrun2 : t2.outcome = .running :=
      (outcome_of_busWrite_ok h2).trans ((outcome_of_busWrite_ok h1).trans hwrun)
    rw [hstep _ (interruptDispatch_of_push_ok n hpush), if_pos hrun2]; rfl
  · rw [hstep _ (interruptDispatch_of_push_stop n (push16_of_stop h1)), if_neg (outcome_of_busWrite_stop h1)]
  · have hpush : push16 w.pc w = .stop t2 := (push16_of_ok h1).trans h2
    rw [hstep _ (interruptDispatch_of_push_stop n hpush), if_neg (outcome_of_busWrite_stop h2)]

/-! ## Executing an instruction -/

theorem fetchBytes_succ_eq_ok {n : Nat} {s u : State} {op : Byte} {rest : List Byte}
    (h : fetchBytes (n + 1) s = .ok (op :: rest) u) : ∃ t, fetch8 s = .ok op t ∧ fetchBytes n t = .ok rest u := by
  obtain ⟨v, t, hop, h⟩ := Access.bind_eq_ok h
  obtain ⟨vs, u', hrest, h⟩ := Access.bind_eq_ok h
  cases h
  exact ⟨t, hop, hrest⟩

/-- The bytes fetched one by one are the bytes fetched at once (R91). -/
theorem fetchAndExecute_of_fetchBytes {s u : State} {op : Byte} {rest : List Byte}
    (h : fetchBytes (lengthOf op) s = .ok (op :: rest) u) :
    fetchAndExecute exec s = exec (decodeBytes (op :: rest)) u := by
  obtain ⟨n, hn⟩ := Nat.exists_eq_add_one.2 (lengthOf_pos op)
  rw [hn] at h
  obtain ⟨t, hop, hrest⟩ := fetchBytes_succ_eq_ok h
  simp only [fetchAndExecute, hop, hn, Nat.add_sub_cancel, hrest, Access.bind_ok]

theorem decodeBytes_of_decode {op : Byte} {bytes rest : List Byte} {i : Instr}
    (h : decode (op :: bytes) = .ok (i, rest)) : decodeBytes (op :: bytes) = i := by
  obtain hlt | hle := Nat.lt_or_ge (op :: bytes).length (lengthOf op)
  · rw [decode_of_length_lt hlt] at h; cases h
  · rw [decode_of_length_le hle] at h; cases h; rfl

/-- The latch's commit in a run that goes on: only where it was set before the instruction and still is (R341). -/
theorem commitLatch_of_running {s : State} (h : s.outcome = .running) (before : Bool) : commitLatch before s =
    if before = true ∧ s.eiPending = true then { s with ime := true, eiPending := false } else s := by
  rw [commitLatch, decide_eq_true h, Bool.and_true]
  simp only [Bool.and_eq_true]
  rfl

theorem commitLatch_outcome (before : Bool) (s : State) : (commitLatch before s).outcome = s.outcome := by
  obtain h | ⟨-, h⟩ := commitLatch_cases before s <;> rw [h]
  rfl

/-- Settles O6: steps (2) and (3) are the run of the decoded instruction and the latch's commit. -/
theorem stepRunsTheDecodedInstruction : Obligations.StepRunsTheDecodedInstruction := by
  intro s u op rest i w hrun hpoint hnone hfetch hdecode
  obtain ⟨t, ht, -⟩ := instructionsNeverStepTheDevices i u
  have hexec : fetchAndExecute exec w = .next t := by
    rw [fetchAndExecute_of_fetchBytes hfetch, decodeBytes_of_decode hdecode, ht]
  rw [step_of_dispatchPhase hrun (dispatchPhase_of_instruction hpoint hnone hexec), commitLatch_outcome, ht]
  by_cases hrun' : t.outcome = .running
  · rw [if_pos hrun', commitLatch_of_running hrun']; exact (if_pos hrun').symm
  · rw [if_neg hrun', commitLatch_of_not_running hrun']; exact (if_neg hrun').symm

end Sys2Proof.Machine
end

section
/-! PROOFS. What a tick that ends the run leaves (60_exceptions.md R300 to R302): the latch, the devices and the
accounting as they were, the divider but for a store to DIV. -/

namespace Sys2Proof.Machine

/-! ## The divider between the timer's steps -/

/-- Outside the timer's step the divider does not count; a store to DIV clears it (R64). -/
def DivKept (s t : State) : Prop := t.timer.divCounter = s.timer.divCounter ∨ t.timer.divCounter = 0

theorem DivKept.of_timer {s t : State} (h : t.timer = s.timer) : DivKept s t := .inl (congrArg Timer.divCounter h)

theorem DivKept.trans {s t u : State} (h : DivKept s t) (k : DivKept t u) : DivKept s u := by
  obtain k | k := k
  · exact h.imp k.trans k.trans
  · exact .inr k

theorem DivKept.bind {α β : Type} {s : State} {x : Access α} {k : α → State → Access β} (h : DivKept s x.after)
    (hk : ∀ a t, DivKept t (k a t).after) : DivKept s (x.bind k).after := by
  cases x with
  | ok a t => exact h.trans (hk a t)
  | stop t => exact h

theorem DivKept.of_finish {s t : State} {x : Access Unit} {c : Nat} (h : DivKept s x.after)
    (hx : x.finish c = .next t) : DivKept s t := by
  cases x <;> cases hx <;> exact h

theorem busReadWith_timer (g : Bool) (a : Word) (s : State) : (busReadWith g a s).after.timer = s.timer := by
  obtain ⟨-, -, -, -, h, -, -⟩ := busReadWith_after g a s
  exact h

theorem dmaCopy_div (page : Byte) (n i : Nat) (s : State) : DivKept s (dmaCopy page n i s).after := by
  induction n generalizing i s with
  | zero => exact .inl rfl
  | succ n ih => exact DivKept.bind (.of_timer (busReadWith_timer _ _ s)) fun v t => ih (i + 1) _

theorem unmappedWrite_div (a : Word) (s : State) : DivKept s (unmappedWrite a s).after := by
  unfold unmappedWrite
  split <;> exact .inl rfl

theorem ioWrite_div (a : Word) (v : Byte) (s : State) : DivKept s (ioWrite a v s).after := by
  unfold ioWrite
  split
  case h_2 => exact .inr rfl
  case h_13 => exact dmaCopy_div v 160 0 _
  case h_19 => split <;> exact .inl rfl
  case h_20 => exact unmappedWrite_div a s
  all_goals exact .inl rfl

theorem cartStore_div (a : Word) (v : Byte) (s : State) : DivKept s (cartStore a v s).after := by
  unfold cartStore
  split <;> exact .inl rfl

theorem busWrite_div (a : Word) (v : Byte) (s : State) : DivKept s (busWrite a v s).after := by
  unfold busWrite
  cases region a with
  | rom | cartRam => exact cartStore_div a v s
  | vram | oam => dsimp only; split <;> exact .inl rfl
  | hole => exact unmappedWrite_div a s
  | io => exact ioWrite_div a v s
  | _ => exact .inl rfl

theorem readR8_div (x : R8) (s : State) : DivKept s (readR8 x s).after := by
  cases x with
  | reg r => exact .inl rfl
  | indHl => exact .of_timer (busReadWith_timer true s.hl s)

theorem writeR8_div (x : R8) (v : Byte) (s : State) : DivKept s (writeR8 x v s).after := by
  cases x with
  | reg r => exact .of_timer (State.set8_timer s r v)
  | indHl => exact busWrite_div s.hl v s

theorem push16_div (v : Word) (s : State) : DivKept s (push16 v s).after :=
  DivKept.bind (busWrite_div _ _ (s.setSp (s.sp - 1))) fun _ t => busWrite_div _ _ (t.setSp (t.sp - 1))

theorem callTo_div (target : Word) (s : State) : DivKept s (callTo target s).after :=
  (push16_div s.pc s).bind fun _ _ => .inl rfl

/-- A shape that stores does so by bus writes, none of which counts the divider. -/
theorem Shape.run_div_of_stores {x : Shape} {s t : State} (hst : x.stores s ≠ []) (h : x.run s = .next t) :
    DivKept s t := by
  cases x with
  | store a v c => exact (busWrite_div _ _ s).of_finish h
  | storeMove d => exact ((busWrite_div _ _ s).bind fun _ _ => .inl rfl).of_finish h
  | storeSp nn => exact ((busWrite_div _ _ s).bind fun _ t => busWrite_div _ _ t).of_finish h
  | push rr => exact (push16_div _ s).of_finish h
  | inc x | dec x | shift op x =>
    exact ((readR8_div x s).bind fun _ t => (writeR8_div x _ t).bind fun _ _ => .inl rfl).of_finish h
  | res n x | set n x => exact ((readR8_div x s).bind fun _ t => writeR8_div x _ t).of_finish h
  | call nn | rst nn => exact (callTo_div _ s).of_finish h
  | callIf cc nn =>
    by_cases hcc : condHolds cc s
    · rw [Shape.run, Machine.callIf, if_pos hcc] at h
      exact (callTo_div nn s).of_finish h
    · exact absurd (if_neg hcc) hst
  | _ => exact absurd rfl hst

theorem exec_div {i : Instr} {s t : State} (h : exec i s = .next t) : DivKept s t := by
  by_cases hst : storeAddresses i s = []
  · obtain ⟨-, -, hbus⟩ := exec_bus h
    exact .of_timer (hbus hst).1.timer
  · rw [storeAddresses_eq] at hst
    exact Shape.run_div_of_stores hst (exec_eq i s ▸ h)

/-! ## What a run that ends in steps (2) and (3) leaves -/

/-- What a run that ends leaves as it was: what `Kept` names, the control state that the latch's commit and the
accounting would have changed, and the divider. -/
structure Undone (s t : State) : Prop where
  kept : Kept s t
  ime : t.ime = s.ime
  eiPending : t.eiPending = s.eiPending
  busy : t.busy = s.busy
  div : DivKept s t

theorem Undone.trans {s t u : State} (h : Undone s t) (k : Undone t u) : Undone s u :=
  ⟨h.kept.trans k.kept, k.ime.trans h.ime, k.eiPending.trans h.eiPending, k.busy.trans h.busy, h.div.trans k.div⟩

theorem fetch8_storesTo (s : State) : StoresTo [] s (fetch8 s) :=
  (busRead_storesTo s.pc s).bind fun _ _ _ => .cpu rfl

theorem fetchBytes_storesTo (n : Nat) (s : State) : StoresTo [] s (fetchBytes n s) := by
  induction n generalizing s with
  | zero => exact .cpu rfl
  | succ n ih => exact (fetch8_storesTo s).bind fun _ t _ => (ih t).bind fun _ _ _ => .cpu rfl

/-- All of an instruction's bytes (R91). -/
def fetchInstr (s : State) : Access (List Byte) :=
  (fetch8 s).bind fun op t => (fetchBytes (lengthOf op - 1) t).bind fun rest u => .ok (op :: rest) u

/-- A tick's instruction is stopped in its fetch, or runs after it. -/
theorem fetchAndExecute_eq_next {s t : State} (h : fetchAndExecute exec s = .next t) :
    fetchInstr s = .stop t ∨ ∃ bytes u, fetchInstr s = .ok bytes u ∧ exec (decodeBytes bytes) u = .next t := by
  change (match fetchInstr s with | .ok bytes t => exec (decodeBytes bytes) t | .stop t => .next t) = _ at h
  cases hf : fetchInstr s with
  | stop u => rw [hf] at h; cases h; exact .inl rfl
  | ok bytes u => rw [hf] at h; exact .inr ⟨bytes, u, rfl, h⟩

theorem fetchInstr_storesTo (s : State) : StoresTo [] s (fetchInstr s) :=
  (fetch8_storesTo s).bind fun op t _ => (fetchBytes_storesTo (lengthOf op - 1) t).bind fun _ _ _ => .cpu rfl

theorem fetchInstr_undone (s : State) : Undone s (fetchInstr s).after := by
  have hs := fetchInstr_storesTo s
  have hf : Frame { pc := True } s (fetchInstr s).after := (fetch8_frame (.refl _ s) trivial).bind fun _ _ h =>
    (fetchBytes_frame trivial _ h).bind fun _ _ h => h
  exact ⟨hs.kept, hf.ime id, hf.ei id, hs.busy, .of_timer (hs.bus rfl).1.timer⟩

theorem fetchInstr_outcome {s u : State} {bytes : List Byte} (h : fetchInstr s = .ok bytes u) :
    u.outcome = s.outcome := by
  have ho := (fetchInstr_storesTo s).outcome
  rw [h] at ho
  exact ho

theorem exec_ei (s : State) : exec .ei s = .next ((s.setEi true).setBusy 1) := rfl

/-- RETI ends the run in its pop alone, before it writes IME or the latch (R242, R301). -/
theorem exec_reti_control_of_ended {s t : State} (hrun : s.outcome = .running) (h : exec .reti s = .next t)
    (hend : t.outcome ≠ .running) : t.ime = s.ime ∧ t.eiPending = s.eiPending := by
  have ho := (pop16_storesTo (st := []) s).outcome
  cases hp : pop16 s with
  | stop u =>
    rw [exec_reti, returnFromInterrupt_of_pop_stop hp] at h; cases h
    exact (control_of_pop16_stop hp).2
  | ok v u =>
    obtain ⟨ime, ei, he⟩ := exec_reti_of_pop_ok hp
    rw [he] at h; cases h
    rw [hp] at ho
    exact absurd (ho.trans hrun) hend

/-- No instruction that ends the run writes IME or the latch: DI and EI never end it. -/
theorem exec_control_of_ended {i : Instr} {s t : State} (hrun : s.outcome = .running) (h : exec i s = .next t)
    (hend : t.outcome ≠ .running) : t.ime = s.ime ∧ t.eiPending = s.eiPending := by
  by_cases hi : i = .di ∨ i = .ei ∨ i = .reti
  · obtain rfl | rfl | rfl := hi
    · rw [exec_di] at h; cases h
      exact absurd hrun hend
    · rw [exec_ei] at h; cases h
      exact absurd hrun hend
    · exact exec_reti_control_of_ended hrun h hend
  · have hf := exec_frame h
    refine ⟨hf.ime fun hw => hi ?_, hf.ei fun hw => hi (writes_ei hw)⟩
    exact (writes_ime hw).imp_right fun hr => .inr hr.1

theorem exec_undone {i : Instr} {s t : State} (hrun : s.outcome = .running) (h : exec i s = .next t)
    (hend : t.outcome ≠ .running) : Undone s t := by
  obtain ⟨hime, hei⟩ := exec_control_of_ended hrun h hend
  obtain ⟨hkept, -, -⟩ := exec_bus h
  obtain ⟨t', ht', -, -, -, -, -, -, -, -, hcost⟩ := instructionsNeverStepTheDevices i s
  cases h.symm.trans ht'
  have hbusy : t.busy = s.busy := by
    obtain ⟨ho, -⟩ | ⟨-, hb⟩ := hcost
    · exact absurd (ho.trans hrun) hend
    · exact hb
  exact ⟨hkept, hime, hei, hbusy, exec_div h⟩

theorem fetchAndExecute_undone {s t : State} (hrun : s.outcome = .running) (h : fetchAndExecute exec s = .next t)
    (hend : t.outcome ≠ .running) : Undone s t := by
  have hf := fetchInstr_undone s
  obtain hstop | ⟨bytes, u, hok, he⟩ := fetchAndExecute_eq_next h
  · rw [hstop] at hf
    exact hf
  · rw [hok] at hf
    exact hf.trans (exec_undone ((fetchInstr_outcome hok).trans hrun) he hend)

/-- An interrupt's dispatch ends the run in its push alone (R321). -/
theorem interruptDispatch_undone {n : IntSource} {s t : State} (hrun : s.outcome = .running)
    (h : interruptDispatch n s = .next t) (hend : t.outcome ≠ .running) : Undone s t := by
  have hs : StoresTo [s.sp - 1, s.sp - 2] s (push16 s.pc s) := push16_storesTo (.head _) (.tail _ (.head _)) _
  have hf : Frame { sp := True } s (push16 s.pc s).after := push16_frame (.refl _ s) trivial _
  have hd := push16_div s.pc s
  have ho := hs.outcome
  have hk := hs.kept
  have hb := hs.busy
  cases hp : push16 s.pc s with
  | ok u t' =>
    rw [interruptDispatch_of_push_ok n hp] at h; cases h
    rw [hp] at ho
    exact absurd (ho.trans hrun) hend
  | stop t' =>
    rw [interruptDispatch_of_push_stop n hp] at h; cases h
    rw [hp] at hf hd hk hb
    exact ⟨hk, hf.ime id, hf.ei id, hb, hd⟩

theorem dispatchPhase_undone {s t : State} (hrun : s.outcome = .running) (h : dispatchPhase exec s = .next t)
    (hend : t.outcome ≠ .running) : Undone s t := by
  obtain rfl | ⟨n, -, hn⟩ | ⟨u, hu, rfl⟩ := dispatchPhase_cases h
  · exact absurd hrun hend
  · exact interruptDispatch_undone hrun hn hend
  · rw [commitLatch_outcome] at hend
    rw [commitLatch_of_not_running hend]
    exact fetchAndExecute_undone hrun hu hend

theorem accounting_deviceStep_outcome (s : State) : (accounting (deviceStep s)).outcome = s.outcome := by
  obtain ⟨timer, irq, frame, hd⟩ := deviceStep_eq s
  obtain ⟨busy, clock, -, ha⟩ := accounting_eq (deviceStep s)
  rw [ha, hd]

/-- A tick that ends the run is its steps (2) and (3) alone, after the gap and the wake-up (R301). -/
theorem dispatchPhase_of_step_ended {s t : State} (hrun : s.outcome = .running) (h : step s = .next t)
    (hend : t.outcome ≠ .running) : dispatchPhase exec (wakeUp (hostGap s)) = .next t := by
  obtain ⟨u, hu, -⟩ := step_cases h
  rw [step_of_dispatchPhase hrun hu] at h
  split at h
  · next hu' => cases h; exact absurd ((accounting_deviceStep_outcome u).trans hu') hend
  · cases h; exact hu

/-- A tick after which the run goes on steps the devices and counts after steps (2) and (3) (R340). -/
theorem dispatchPhase_of_step_running {s t : State} (hrun : s.outcome = .running) (h : step s = .next t)
    (hrun' : t.outcome = .running) :
    ∃ u, dispatchPhase exec (wakeUp (hostGap s)) = .next u ∧ t = accounting (deviceStep u) := by
  obtain ⟨u, hu, -⟩ := step_cases h
  rw [step_of_dispatchPhase hrun hu] at h
  split at h
  · cases h; exact ⟨u, hu, rfl⟩
  · next hend => cases h; exact absurd hrun' hend

/-- Settles O10: what steps (2) and (3) leave where they end the run, and the record's answer after that. -/
theorem faultEndsTheTickAndTheRun : Obligations.FaultEndsTheTickAndTheRun := by
  refine ⟨fun s t hrun h hend => ?_, fun s f hf => ?_, fun s r hr => ?_⟩
  · have hw := (wakeUp_hostGap_outcome s).trans hrun
    have hu := dispatchPhase_undone hw (dispatchPhase_of_step_ended hrun h hend) hend
    obtain ⟨irq, hg⟩ := hostGap_eq s
    obtain ⟨halted, stopped, he⟩ := wakeUp_eq (hostGap s)
    rw [he, hg] at hu
    have hk := hu.kept
    exact ⟨hu.ime, hu.eiPending, hu.busy, hk.clock, hk.mode, hk.modeClock, hk.line, hk.framebuffer, hu.div, hk.frameBit⟩
  · simp only [step, tick, hf]
  · simp only [step, tick, hr]

end Sys2Proof.Machine
end

section
/-! PROOFS. The timer (60_exceptions.md R350 to R352): what one count does, and from it any number of counts. -/

namespace Sys2Proof.Machine

/-! ## The selected bit -/

/-- How many counts lie between two falling edges of the divider bit that TAC selects (R351). -/
def timerPeriod (tac : BitVec 3) : Nat :=
  match tac.toNat % 4 with
  | 0 => 1024
  | 1 => 16
  | 2 => 64
  | _ => 256

/-- The period is that of the selected bit, one of the divider's sixteen. -/
theorem timerPeriod_eq (tac : BitVec 3) : timerPeriod tac = 2 ^ (timerBit tac + 1) ∧ timerBit tac < 16 := by
  revert tac; decide

theorem timerPeriod_dvd (tac : BitVec 3) : timerPeriod tac ∣ 65536 := by
  obtain ⟨hp, hb⟩ := timerPeriod_eq tac
  rw [hp]
  exact Nat.pow_dvd_pow 2 hb

/-- A bit falls in a count exactly where the count ends a period of the bits up to it. -/
theorem testBit_falls_iff (n b : Nat) :
    n.testBit b = true ∧ (n + 1).testBit b = false ↔ 2 ^ (b + 1) ∣ n + 1 := by
  rw [Nat.testBit_eq_decide_div_mod_eq, Nat.testBit_eq_decide_div_mod_eq, decide_eq_true_eq, decide_eq_false_iff_not,
    pow_succ]
  by_cases hcarry : 2 ^ b ∣ n + 1
  · rw [← Nat.dvd_div_iff_mul_dvd hcarry, Nat.succ_div_of_dvd hcarry]
    omega
  · have hnot : ¬ 2 ^ b * 2 ∣ n + 1 := fun h => hcarry (dvd_of_mul_right_dvd h)
    rw [Nat.succ_div_of_not_dvd hcarry]
    exact iff_of_false (fun h => h.2 h.1) hnot

theorem timerEnabled_iff (tac : BitVec 3) : tac.getLsbD 2 = true ↔ 4 ≤ tac.toNat := by
  revert tac; decide

/-- TIMA counts in a count of an enabled timer that ends a period of the selected bit. -/
abbrev TimaCounts (t : Timer) : Prop := 4 ≤ t.tac.toNat ∧ timerPeriod t.tac ∣ t.divCounter.toNat + 1

theorem fallingEdge_iff (t : Timer) :
    (t.tac.getLsbD 2 && t.divCounter.getLsbD (timerBit t.tac) && !(t.divCounter + 1).getLsbD (timerBit t.tac)) = true ↔
      TimaCounts t := by
  obtain ⟨hp, hb⟩ := timerPeriod_eq t.tac
  have hnext : (t.divCounter + 1).getLsbD (timerBit t.tac) = (t.divCounter.toNat + 1).testBit (timerBit t.tac) := by
    rw [← BitVec.testBit_toNat, BitVec.toNat_add, Nat.testBit_mod_two_pow, decide_eq_true hb, Bool.true_and]; rfl
  rw [TimaCounts, hp, ← testBit_falls_iff, hnext, ← BitVec.testBit_toNat t.divCounter, ← timerEnabled_iff,
    Bool.and_eq_true, Bool.and_eq_true, Bool.not_eq_true', and_assoc]

/-! ## One count -/

section
variable {t : Timer}

theorem timerCount_of_idle (h : ¬ TimaCounts t) :
    timerCount t = ({ t with divCounter := t.divCounter + 1 }, false) := if_neg (mt (fallingEdge_iff t).1 h)

theorem timerCount_of_counts (h : TimaCounts t) (hff : t.tima ≠ 0xFF) :
    timerCount t = ({ t with divCounter := t.divCounter + 1, tima := t.tima + 1 }, false) :=
  (if_pos ((fallingEdge_iff t).2 h)).trans (if_neg hff)

theorem timerCount_of_overflow (h : TimaCounts t) (hff : t.tima = 0xFF) :
    timerCount t = ({ t with divCounter := t.divCounter + 1, tima := t.tma }, true) :=
  (if_pos ((fallingEdge_iff t).2 h)).trans (if_pos hff)

/-- Every count moves the divider and leaves TMA and TAC. -/
theorem timerCount_registers (t : Timer) : (timerCount t).1.divCounter = t.divCounter + 1 ∧
    (timerCount t).1.tma = t.tma ∧ (timerCount t).1.tac = t.tac := by
  by_cases h : TimaCounts t
  · by_cases hff : t.tima = 0xFF
    · rw [timerCount_of_overflow h hff]; exact ⟨rfl, rfl, rfl⟩
    · rw [timerCount_of_counts h hff]; exact ⟨rfl, rfl, rfl⟩
  · rw [timerCount_of_idle h]; exact ⟨rfl, rfl, rfl⟩

end

/-! ## Several counts -/

theorem timerAdvance_one (t : Timer) : timerAdvance 1 t = timerCount t :=
  Prod.ext rfl (Bool.or_false _)

/-- Counts in a row: the second run starts where the first ended, and either can overflow. -/
theorem timerAdvance_add (j k : Nat) (t : Timer) : timerAdvance (j + k) t =
    ((timerAdvance k (timerAdvance j t).1).1, (timerAdvance j t).2 || (timerAdvance k (timerAdvance j t).1).2) := by
  induction j generalizing t with
  | zero => rw [Nat.zero_add]; rfl
  | succ j ih => simp only [Nat.succ_add, timerAdvance, ih, Bool.or_assoc]

theorem timerAdvance_succ (k : Nat) (t : Timer) : timerAdvance (k + 1) t =
    ((timerCount (timerAdvance k t).1).1, (timerAdvance k t).2 || (timerCount (timerAdvance k t).1).2) := by
  rw [timerAdvance_add, timerAdvance_one]

theorem timerAdvance_registers (k : Nat) (t : Timer) :
    (timerAdvance k t).1.divCounter.toNat = (t.divCounter.toNat + k) % 65536 ∧
      (timerAdvance k t).1.tma = t.tma ∧ (timerAdvance k t).1.tac = t.tac := by
  induction k with
  | zero => exact ⟨(Nat.mod_eq_of_lt t.divCounter.isLt).symm, rfl, rfl⟩
  | succ k ih =>
    obtain ⟨hdiv, htma, htac⟩ := ih
    obtain ⟨hdiv', htma', htac'⟩ := timerCount_registers (timerAdvance k t).1
    rw [timerAdvance_succ]
    refine ⟨?_, htma'.trans htma, htac'.trans htac⟩
    rw [hdiv', BitVec.toNat_add, hdiv]
    exact Nat.mod_add_mod _ _ _

/-- Whether TIMA counts in the count after `k` others, the divider's wrap left aside: the period divides 65536. -/
theorem timaCounts_after_iff (k : Nat) (t : Timer) : TimaCounts (timerAdvance k t).1 ↔
    4 ≤ t.tac.toNat ∧ timerPeriod t.tac ∣ t.divCounter.toNat + k + 1 := by
  obtain ⟨hdiv, -, htac⟩ := timerAdvance_registers k t
  rw [TimaCounts, htac, hdiv, ← Nat.dvd_mod_iff (timerPeriod_dvd t.tac), Nat.mod_add_mod,
    Nat.dvd_mod_iff (timerPeriod_dvd t.tac)]

/-- A disabled timer leaves TIMA. -/
theorem timerAdvance_disabled {t : Timer} (h : t.tac.toNat < 4) (k : Nat) :
    (timerAdvance k t).1.tima = t.tima ∧ (timerAdvance k t).2 = false := by
  induction k with
  | zero => exact ⟨rfl, rfl⟩
  | succ k ih =>
    obtain ⟨htima, hover⟩ := ih
    have hidle : ¬ TimaCounts (timerAdvance k t).1 := fun hc => by
      have := ((timaCounts_after_iff k t).1 hc).1
      omega
    rw [timerAdvance_succ, timerCount_of_idle hidle]
    exact ⟨htima, by rw [hover]; rfl⟩

/-- The falling edges of the selected bit in `k` counts. -/
def timerEdges (t : Timer) (k : Nat) : Nat :=
  (t.divCounter.toNat + k) / timerPeriod t.tac - t.divCounter.toNat / timerPeriod t.tac

theorem timerEdges_succ (t : Timer) (k : Nat) : timerEdges t (k + 1) =
    timerEdges t k + if timerPeriod t.tac ∣ t.divCounter.toNat + k + 1 then 1 else 0 := by
  have hle : t.divCounter.toNat / timerPeriod t.tac ≤ (t.divCounter.toNat + k) / timerPeriod t.tac :=
    Nat.div_le_div_right (Nat.le_add_right _ _)
  rw [timerEdges, timerEdges, ← Nat.add_assoc, Nat.succ_div, Nat.sub_add_comm hle]

/-- An enabled timer counts the edges while they stay within a byte. -/
theorem timerAdvance_enabled {t : Timer} (h : 4 ≤ t.tac.toNat) {k : Nat} (hk : t.tima.toNat + timerEdges t k ≤ 0xFF) :
    (timerAdvance k t).1.tima.toNat = t.tima.toNat + timerEdges t k ∧ (timerAdvance k t).2 = false := by
  induction k with
  | zero => simp [timerEdges, timerAdvance]
  | succ k ih =>
    rw [timerEdges_succ] at hk ⊢
    obtain ⟨htima, hover⟩ := ih (by omega)
    rw [timerAdvance_succ, hover, Bool.false_or]
    by_cases hedge : timerPeriod t.tac ∣ t.divCounter.toNat + k + 1
    · rw [if_pos hedge] at hk ⊢
      have hff : (timerAdvance k t).1.tima ≠ 0xFF := fun he => by
        rw [he] at htima
        change 0xFF = _ at htima
        omega
      rw [timerCount_of_counts ((timaCounts_after_iff k t).2 ⟨h, hedge⟩) hff]
      refine ⟨?_, rfl⟩
      rw [BitVec.toNat_add, htima]
      exact Nat.mod_eq_of_lt (Nat.lt_succ_of_le hk)
    · rw [if_neg hedge, timerCount_of_idle fun hc => hedge ((timaCounts_after_iff k t).1 hc).2]
      exact ⟨htima, rfl⟩

/-- Settles O29, by induction on the number of counts. -/
theorem timerCountsFallingEdgesOfTheSelectedBit : Obligations.TimerCountsFallingEdgesOfTheSelectedBit := by
  intro k t r period edges
  obtain ⟨hdiv, htma, htac⟩ := timerAdvance_registers k t
  exact ⟨hdiv, htma, htac, fun h => timerAdvance_disabled h k, fun h => timerAdvance_enabled h⟩

/-- Settles O30: the count that overflows, counts in a row, and the devices' step, which ORs the request into IF. -/
theorem timerOverflowReloadsAndInterrupts : Obligations.TimerOverflowReloadsAndInterrupts := by
  refine ⟨?_, fun j k t => ?_, fun s h => ?_⟩
  · intro t period h hff hedge
    have hcounts : TimaCounts t := ⟨h, Nat.dvd_of_mod_eq_zero hedge⟩
    rw [timerAdvance_one, timerCount_of_overflow hcounts hff]
  · rw [timerAdvance_add]
  · rw [deviceStep_eq_signals, h, BitVec.getLsbD_or]
    exact Bool.or_true _

end Sys2Proof.Machine
end

section
/-! PROOFS. The renderer's mode sequencer (60_exceptions.md R360 to R365): what one renderer tick does, by mode, and
from it the lines, the frame, the signals and the framebuffer. -/

namespace Sys2Proof.Machine

/-! ## One renderer tick, by mode -/

/-- The mode counter cleared, as the end of a mode's budget does before it leaves the mode. -/
def restarted (p : Ppu) : Ppu := { p with modeClock := 0 }

section
variable {p : Ppu} (ram : Memory)

/-- Within a mode's budget a tick counts. -/
theorem rendererTick_of_lt (h : p.modeClock + 1 < modeBudget p.mode) :
    rendererTick ram p = ({ p with modeClock := p.modeClock + 1 }, {}) := if_neg (Nat.not_le.2 h)

theorem rendererTick_of_le (h : modeBudget p.mode ≤ p.modeClock + 1) :
    rendererTick ram p = leaveMode ram (restarted p) := if_pos h

theorem leaveMode_oamScan (h : p.mode = .oamScan) : leaveMode ram p = ({ p with mode := .pixelTransfer }, {}) := by
  rw [leaveMode, h]

theorem leaveMode_pixelTransfer (h : p.mode = .pixelTransfer) : leaveMode ram p =
    ({ p with
        mode := .hBlank
        framebuffer := setRow p.framebuffer p.line.toNat (Config.renderLine (renderView ram p) p.line.toNat) },
      { st := p.statSel.getLsbD 0 }) := by
  rw [leaveMode, h]

theorem leaveMode_hBlank_into_vBlank (h : p.mode = .hBlank) (hline : p.line = 143) : leaveMode ram p =
    ({ p with line := 144, mode := .vBlank },
      { vb := true, st := p.statSel.getLsbD 1 || (p.statSel.getLsbD 3 && (144 : Byte) == p.lyc) }) := by
  rw [leaveMode, h, hline]; rfl

theorem leaveMode_hBlank_of_ne (h : p.mode = .hBlank) (hline : p.line ≠ 143) : leaveMode ram p =
    ({ p with line := p.line + 1, mode := .oamScan },
      { st := p.statSel.getLsbD 2 || (p.statSel.getLsbD 3 && p.line + 1 == p.lyc) }) := by
  have hne : p.line + 1 ≠ 144 := by bv_omega
  rw [leaveMode, h]
  exact if_neg hne

theorem leaveMode_vBlank_into_oamScan (h : p.mode = .vBlank) (hline : 153 ≤ p.line.toNat) : leaveMode ram p =
    ({ p with line := 0, mode := .oamScan },
      { st := p.statSel.getLsbD 2 || (p.statSel.getLsbD 3 && (0 : Byte) == p.lyc) }) := by
  rw [leaveMode, h]
  exact if_pos (Nat.lt_succ_of_le hline)

theorem leaveMode_vBlank_of_lt (h : p.mode = .vBlank) (hline : p.line.toNat < 153) : leaveMode ram p =
    ({ p with line := p.line + 1 }, { st := p.statSel.getLsbD 3 && p.line + 1 == p.lyc }) := by
  rw [leaveMode, h]
  exact if_neg (Nat.not_lt.2 hline)

/-- What one renderer tick does: it counts within the mode's budget, or leaves the mode with the counter cleared. -/
inductive TickResult (p : Ppu) : Ppu × Signals → Prop
  | counts (hlt : p.modeClock + 1 < modeBudget p.mode) : TickResult p ({ p with modeClock := p.modeClock + 1 }, {})
  | intoPixelTransfer (hm : p.mode = .oamScan) :
    TickResult p ({ p with mode := .pixelTransfer, modeClock := 0 }, {})
  | intoHBlank (hm : p.mode = .pixelTransfer) (hc : 171 ≤ p.modeClock) : TickResult p
    ({ p with
        mode := .hBlank
        modeClock := 0
        framebuffer := setRow p.framebuffer p.line.toNat (Config.renderLine (renderView ram p) p.line.toNat) },
      { st := p.statSel.getLsbD 0 })
  | intoVBlank (hm : p.mode = .hBlank) (hline : p.line = 143) (hc : 203 ≤ p.modeClock) : TickResult p
    ({ p with line := 144, mode := .vBlank, modeClock := 0 },
      { vb := true, st := p.statSel.getLsbD 1 || (p.statSel.getLsbD 3 && (144 : Byte) == p.lyc) })
  | intoNextLine (hm : p.mode = .hBlank) (hline : p.line ≠ 143) : TickResult p
    ({ p with line := p.line + 1, mode := .oamScan, modeClock := 0 },
      { st := p.statSel.getLsbD 2 || (p.statSel.getLsbD 3 && p.line + 1 == p.lyc) })
  | withinVBlank (hm : p.mode = .vBlank) (hline : p.line.toNat < 153) : TickResult p
    ({ p with line := p.line + 1, modeClock := 0 }, { st := p.statSel.getLsbD 3 && p.line + 1 == p.lyc })
  | intoFrame (hm : p.mode = .vBlank) (hline : 153 ≤ p.line.toNat) : TickResult p
    ({ p with line := 0, mode := .oamScan, modeClock := 0 },
      { st := p.statSel.getLsbD 2 || (p.statSel.getLsbD 3 && (0 : Byte) == p.lyc) })

theorem rendererTick_result (p : Ppu) : TickResult ram p (rendererTick ram p) := by
  obtain hlt | hle := Nat.lt_or_ge (p.modeClock + 1) (modeBudget p.mode)
  · rw [rendererTick_of_lt ram hlt]
    exact .counts hlt
  · rw [rendererTick_of_le ram hle]
    obtain ⟨m, hm⟩ : ∃ m, p.mode = m := ⟨_, rfl⟩
    rw [hm] at hle
    cases m with
    | oamScan => rw [leaveMode_oamScan ram (p := restarted p) hm]; exact .intoPixelTransfer hm
    | pixelTransfer =>
      rw [leaveMode_pixelTransfer ram (p := restarted p) hm]
      exact .intoHBlank hm (Nat.le_of_succ_le_succ hle)
    | hBlank =>
      by_cases hline : p.line = 143
      · rw [leaveMode_hBlank_into_vBlank ram (p := restarted p) hm hline]
        exact .intoVBlank hm hline (Nat.le_of_succ_le_succ hle)
      · rw [leaveMode_hBlank_of_ne ram (p := restarted p) hm hline]
        exact .intoNextLine hm hline
    | vBlank =>
      obtain hline | hline := Nat.lt_or_ge p.line.toNat 153
      · rw [leaveMode_vBlank_of_lt ram (p := restarted p) hm hline]
        exact .withinVBlank hm hline
      · rw [leaveMode_vBlank_into_oamScan ram (p := restarted p) hm hline]
        exact .intoFrame hm hline

end

/-! ## Several renderer ticks -/

theorem rendererAdvance_one (ram : Memory) (p : Ppu) : rendererAdvance ram 1 p = rendererTick ram p := by
  simp [rendererAdvance]

theorem rendererAdvance_add (ram : Memory) (j k : Nat) (p : Ppu) :
    (rendererAdvance ram (j + k) p).1 = (rendererAdvance ram k (rendererAdvance ram j p).1).1 ∧
      (rendererAdvance ram (j + k) p).2.vb =
        ((rendererAdvance ram j p).2.vb || (rendererAdvance ram k (rendererAdvance ram j p).1).2.vb) := by
  induction j generalizing p with
  | zero => rw [Nat.zero_add]; exact ⟨rfl, (Bool.false_or _).symm⟩
  | succ j ih =>
    obtain ⟨hp, hvb⟩ := ih (rendererTick ram p).1
    rw [Nat.succ_add]
    exact ⟨hp, by simp only [rendererAdvance, hvb, Bool.or_assoc]⟩

/-- Within a mode's budget several ticks count, without a signal. -/
theorem rendererAdvance_of_lt (ram : Memory) {k : Nat} {p : Ppu} (h : p.modeClock + k < modeBudget p.mode) :
    rendererAdvance ram k p = ({ p with modeClock := p.modeClock + k }, {}) := by
  induction k generalizing p with
  | zero => rfl
  | succ k ih =>
    have htick := rendererTick_of_lt ram (p := p) (by omega)
    have hrest := ih (p := { p with modeClock := p.modeClock + 1 }) (by dsimp only; omega)
    rw [rendererAdvance, htick]
    dsimp only
    rw [hrest, Nat.add_right_comm p.modeClock 1 k]
    rfl

/-- From a mode's start to its end: what leaving it does, which is the only signal. -/
theorem rendererAdvance_mode (ram : Memory) {p : Ppu} (hclock : p.modeClock = 0) :
    (rendererAdvance ram (modeBudget p.mode) p).1 = (leaveMode ram p).1 ∧
      (rendererAdvance ram (modeBudget p.mode) p).2.vb = (leaveMode ram p).2.vb := by
  obtain ⟨n, hn⟩ := Nat.exists_eq_add_one.2 (modeBudget_pos p.mode)
  have hcount := rendererAdvance_of_lt ram (k := n) (p := p) (by omega)
  have hleave : rendererTick ram { p with modeClock := p.modeClock + n } = leaveMode ram p := by
    rw [rendererTick_of_le ram (by dsimp only; omega), restarted, ← hclock]
  obtain ⟨hp, hvb⟩ := rendererAdvance_add ram n 1 p
  rw [hn, hp, hvb, hcount, rendererAdvance_one, hleave]
  exact ⟨rfl, Bool.false_or _⟩

/-! ## Lines and frames -/

/-- The renderer stands at the start of a mode on a line. -/
structure AtStart (m : Mode) (line : Byte) (p : Ppu) : Prop where
  mode : p.mode = m
  line : p.line = line
  modeClock : p.modeClock = 0

/-- `k` ticks lead from `p` to the start of a mode; `vb` says whether VBlank is signalled on the way. -/
structure Leads (ram : Memory) (k : Nat) (p : Ppu) (m : Mode) (line : Byte) (vb : Bool) : Prop where
  start : AtStart m line (rendererAdvance ram k p).1
  vb : (rendererAdvance ram k p).2.vb = vb

section
variable {ram : Memory} {p : Ppu} {line : Byte}

/-- The second part may start from any renderer that stands where the first one leads. -/
theorem Leads.trans {j k total : Nat} (hk : j + k = total) {m n : Mode} {line' : Byte} {b c : Bool}
    (h : Leads ram j p m line b) (g : ∀ q, AtStart m line q → Leads ram k q n line' c) :
    Leads ram total p n line' (b || c) := by
  subst hk
  obtain ⟨hp, hvb⟩ := rendererAdvance_add ram j k p
  have hg := g _ h.start
  exact ⟨hp ▸ hg.start, by rw [hvb, h.vb, hg.vb]⟩

/-- A mode's budget leads to where leaving the mode does. -/
theorem AtStart.leads {m n : Mode} {k : Nat} {line' : Byte} {b : Bool} {q : Ppu} {st : Bool} (h : AtStart m line p)
    (hk : modeBudget m = k) (hleave : leaveMode ram p = (q, { vb := b, st := st })) (hq : AtStart n line' q) :
    Leads ram k p n line' b := by
  subst hk
  obtain ⟨hp, hvb⟩ := rendererAdvance_mode ram h.modeClock
  rw [h.mode, hleave] at hp hvb
  exact ⟨hp ▸ hq, hvb⟩

theorem AtStart.leads_pixelTransfer (h : AtStart .oamScan line p) : Leads ram 80 p .pixelTransfer line false :=
  h.leads rfl (leaveMode_oamScan ram h.mode) ⟨rfl, h.line, h.modeClock⟩

theorem AtStart.leads_hBlank (h : AtStart .oamScan line p) : Leads ram 252 p .hBlank line false :=
  h.leads_pixelTransfer.trans rfl fun _ g => g.leads rfl (leaveMode_pixelTransfer ram g.mode) ⟨rfl, g.line, g.modeClock⟩

/-- A visible line leads to the next one's start. -/
theorem AtStart.leads_next_line (h : AtStart .oamScan line p) (hne : line ≠ 143) :
    Leads ram 456 p .oamScan (line + 1) false :=
  h.leads_hBlank.trans rfl fun _ g => g.leads rfl (leaveMode_hBlank_of_ne ram g.mode (g.line ▸ hne))
    ⟨rfl, congrArg (· + 1) g.line, g.modeClock⟩

/-- The last visible line leads into VBlank, with its signal. -/
theorem AtStart.leads_vBlank (h : AtStart .oamScan 143 p) : Leads ram 456 p .vBlank 144 true :=
  h.leads_hBlank.trans rfl fun _ g =>
    g.leads rfl (leaveMode_hBlank_into_vBlank ram g.mode g.line) ⟨rfl, rfl, g.modeClock⟩

theorem AtStart.leads_next_vBlank_line (h : AtStart .vBlank line p) (hlt : line.toNat < 153) :
    Leads ram 456 p .vBlank (line + 1) false :=
  h.leads rfl (leaveMode_vBlank_of_lt ram h.mode (h.line ▸ hlt)) ⟨h.mode, congrArg (· + 1) h.line, h.modeClock⟩

theorem AtStart.leads_oamScan (h : AtStart .vBlank 153 p) : Leads ram 456 p .oamScan 0 false :=
  h.leads rfl (leaveMode_vBlank_into_oamScan ram h.mode (h.line ▸ le_rfl)) ⟨rfl, rfl, h.modeClock⟩

/-- The visible lines follow one another without a VBlank signal. -/
theorem AtStart.leads_line (h : AtStart .oamScan 0 p) {n : Nat} (hn : n ≤ 143) :
    Leads ram (456 * n) p .oamScan (BitVec.ofNat 8 n) false := by
  induction n with
  | zero => exact ⟨h, rfl⟩
  | succ n ih =>
    have hne : BitVec.ofNat 8 n ≠ 143 := by bv_omega
    rw [BitVec.ofNat_add]
    exact (ih (by omega)).trans rfl fun _ g => g.leads_next_line hne

/-- VBlank starts with its signal at tick 65,664. -/
theorem AtStart.leads_vBlank_of_frame (h : AtStart .oamScan 0 p) : Leads ram 65664 p .vBlank 144 true :=
  (h.leads_line (n := 143) le_rfl).trans rfl fun _ g => g.leads_vBlank

theorem AtStart.leads_vBlank_line (h : AtStart .oamScan 0 p) {k : Nat} (hk : k < 10) :
    Leads ram (65664 + 456 * k) p .vBlank (BitVec.ofNat 8 (144 + k)) true := by
  induction k with
  | zero => exact h.leads_vBlank_of_frame
  | succ k ih =>
    have hlt : (BitVec.ofNat 8 (144 + k)).toNat < 153 := by rw [BitVec.toNat_ofNat]; omega
    rw [← Nat.add_assoc, BitVec.ofNat_add]
    exact (ih (by omega)).trans (by omega) fun _ g => g.leads_next_vBlank_line hlt

theorem AtStart.leads_frame (h : AtStart .oamScan 0 p) : Leads ram 70224 p .oamScan 0 true :=
  (h.leads_vBlank_line (k := 9) (by decide)).trans rfl fun _ g => g.leads_oamScan

/-- Up to the last tick of line 143's HBlank there is no VBlank signal. -/
theorem AtStart.no_vb_before_vBlank (h : AtStart .oamScan 0 p) : (rendererAdvance ram 65663 p).2.vb = false := by
  have hh : Leads ram (456 * 143 + 252) p .hBlank 143 false :=
    (h.leads_line (n := 143) le_rfl).trans rfl fun _ g => g.leads_hBlank
  have hlt : (rendererAdvance ram (456 * 143 + 252) p).1.modeClock + 203 <
      modeBudget (rendererAdvance ram (456 * 143 + 252) p).1.mode := by
    rw [hh.start.mode, hh.start.modeClock]; decide
  obtain ⟨-, hvb⟩ := rendererAdvance_add ram (456 * 143 + 252) 203 p
  rw [hh.vb, rendererAdvance_of_lt ram hlt] at hvb
  exact hvb

end

/-- Settles O31, by the modes of a line and the lines of a frame. -/
theorem rendererLineAndFrameLengths : Obligations.RendererLineAndFrameLengths := by
  intro ram p hmode hclock
  refine ⟨fun hline => ?_, fun hline => ?_⟩
  · have h : AtStart .oamScan p.line p := ⟨hmode, rfl, hclock⟩
    have hne : p.line ≠ 143 := by bv_omega
    obtain ⟨⟨hm, hl, hc⟩, hvb⟩ := h.leads_next_line (ram := ram) hne
    exact ⟨h.leads_pixelTransfer.start.mode, h.leads_hBlank.start.mode, hm, hc, hl, hvb⟩
  · have h : AtStart .oamScan 0 p := ⟨hmode, hline, hclock⟩
    obtain ⟨⟨hm, hl, hc⟩, -⟩ := h.leads_frame (ram := ram)
    refine ⟨h.no_vb_before_vBlank, h.leads_vBlank_of_frame.vb, fun k hk => ?_, hm, hl, hc⟩
    have hstart := (h.leads_vBlank_line (ram := ram) hk).start
    exact ⟨hstart.mode, hstart.line⟩

/-! ## The signals -/

/-- A tick signals VBlank exactly where it ends line 143's HBlank. -/
theorem rendererTick_vb_iff (ram : Memory) (p : Ppu) :
    (rendererTick ram p).2.vb = true ↔ p.mode = .hBlank ∧ p.line = 143 ∧ 203 ≤ p.modeClock := by
  have h := rendererTick_result ram p
  generalize rendererTick ram p = r at h ⊢
  cases h with
  | counts hlt =>
    refine iff_of_false nofun fun ⟨hm, _, hc⟩ => ?_
    rw [hm] at hlt
    exact absurd hlt (Nat.not_lt.2 (Nat.succ_le_succ hc))
  | intoPixelTransfer hm => simp [hm]
  | intoHBlank hm hc => simp [hm]
  | intoVBlank hm hline hc => exact iff_of_true rfl ⟨hm, hline, hc⟩
  | intoNextLine hm hline => exact iff_of_false nofun fun h => hline h.2.1
  | withinVBlank hm hline => simp [hm]
  | intoFrame hm hline => simp [hm]

/-- The tick that signals VBlank enters it at line 144. -/
theorem rendererTick_of_vb {ram : Memory} {p : Ppu} (hvb : (rendererTick ram p).2.vb = true) :
    (rendererTick ram p).1.mode = .vBlank ∧ (rendererTick ram p).1.line = 144 := by
  have h := rendererTick_result ram p
  generalize rendererTick ram p = r at h hvb ⊢
  cases h with
  | intoVBlank hm hline hc => exact ⟨rfl, rfl⟩
  | _ => cases hvb

/-- The renderer steps unless it is frozen (R364). -/
theorem rendererStep_of_not_frozen {s : State} (h : rendererFrozen s = false) :
    rendererStep s = rendererAdvance s.ram s.params.rendererTicksPerStep s.ppu := by
  rw [rendererStep, h]; rfl

/-- What a tick's steps (2) and (3) leave of what the renderer's step depends on. -/
theorem dispatchPhase_renderer {s u : State} (h : dispatchPhase exec (wakeUp (hostGap s)) = .next u) :
    u.params = s.params ∧ u.ppu.mode = s.ppu.mode ∧ u.ppu.line = s.ppu.line ∧ u.ppu.modeClock = s.ppu.modeClock := by
  have hk := (dispatchPhase_frame h).kept
  rw [wakeUp_eq_modes, hostGap_eq_request] at hk
  exact ⟨hk.params, hk.mode, hk.line, hk.modeClock⟩

/-- Settles O32: at one renderer tick per step the frame bit is that tick's VBlank signal. -/
theorem frameBitMarksTheEntryOfVBlank : Obligations.FrameBitMarksTheEntryOfVBlank := by
  intro s t hticks hoff hrun h hrun'
  obtain ⟨u, hu, rfl⟩ := dispatchPhase_of_step_running hrun h hrun'
  obtain ⟨hparams, hmode, hline, hclock⟩ := dispatchPhase_renderer hu
  have hfrozen : rendererFrozen u = false := by rw [rendererFrozen, hparams, hoff]; rfl
  have htick : rendererStep u = rendererTick u.ram u.ppu := by
    rw [rendererStep_of_not_frozen hfrozen, hparams, hticks, rendererAdvance_one]
  obtain ⟨busy, clock, -, ha⟩ := accounting_eq (deviceStep u)
  rw [ha, deviceStep_eq_signals, htick, ← hmode, ← hline, ← hclock]
  refine ⟨rendererTick_vb_iff u.ram u.ppu, fun hvb => ?_⟩
  obtain ⟨hmode', hline'⟩ := rendererTick_of_vb hvb
  refine ⟨hmode', hline', ?_⟩
  dsimp only at hvb ⊢
  simp [hvb]

/-- A transition at which STAT's select bit for it is set (R363). -/
def SelectedTransition (p q : Ppu) : Prop :=
  (q.mode = .hBlank ∧ p.mode ≠ .hBlank ∧ p.statSel.getLsbD 0 = true) ∨
  (q.mode = .vBlank ∧ p.mode ≠ .vBlank ∧ p.statSel.getLsbD 1 = true) ∨
  (q.mode = .oamScan ∧ p.mode ≠ .oamScan ∧ p.statSel.getLsbD 2 = true) ∨
  (q.line ≠ p.line ∧ q.line = p.lyc ∧ p.statSel.getLsbD 3 = true)

theorem rendererTick_st_iff (ram : Memory) (p : Ppu) :
    (rendererTick ram p).2.st = true ↔ SelectedTransition p (rendererTick ram p).1 := by
  have h := rendererTick_result ram p
  generalize rendererTick ram p = r at h ⊢
  unfold SelectedTransition
  cases h with
  | counts hlt => simp +contextual
  | intoPixelTransfer hm => simp [hm]
  | intoHBlank hm hc => simp [hm]
  | intoVBlank hm hline hc => simp [hm, hline, and_comm]
  | intoNextLine hm hline => simp [hm, and_comm]
  | withinVBlank hm hline => simp [hm, and_comm]
  | intoFrame hm hline =>
    have hne : 0#8 ≠ p.line := by bv_omega
    simp [hm, hne, and_comm]

/-- Settles O33, by what a renderer tick can do; the devices' step ORs the signal into IF. -/
theorem lcdStatusSignalMarksSelectedTransitions : Obligations.LcdStatusSignalMarksSelectedTransitions := by
  refine ⟨rendererTick_st_iff, fun s h => ?_⟩
  rw [deviceStep_eq_signals, h]
  simp

/-! ## The framebuffer -/

/-- A row set is read back, and no other row changes. -/
theorem readRow_setRow (fb : List (Nat × Row)) (k : Nat) (row : Row) (n : Nat) :
    readRow (setRow fb k row) n = if n = k then row else readRow fb n := by
  induction fb with
  | nil => simp only [setRow, readRow, eq_comm]
  | cons c fb ih =>
    obtain ⟨j, r⟩ := c
    unfold setRow
    split
    · simp only [readRow, eq_comm]
    · split
      · next hkj => subst hkj; grind [readRow]
      · next hkj => grind [readRow]

/-- Leaving PixelTransfer alone renders, and renders the current line (R362). -/
theorem rendererTick_framebuffer (ram : Memory) (p : Ppu) : (rendererTick ram p).1.framebuffer =
    if p.mode = .pixelTransfer ∧ 171 ≤ p.modeClock then
      setRow p.framebuffer p.line.toNat (Config.renderLine (renderView ram p) p.line.toNat)
    else p.framebuffer := by
  have h := rendererTick_result ram p
  generalize rendererTick ram p = r at h ⊢
  cases h with
  | counts hlt =>
    refine (if_neg fun ⟨hm, hc⟩ => ?_).symm
    rw [hm] at hlt
    exact absurd hlt (Nat.not_lt.2 (Nat.succ_le_succ hc))
  | intoHBlank hm hc => exact (if_pos ⟨hm, hc⟩).symm
  | intoPixelTransfer hm => simp [hm]
  | intoVBlank hm hline hc => simp [hm]
  | intoNextLine hm hline => simp [hm]
  | withinVBlank hm hline => simp [hm]
  | intoFrame hm hline => simp [hm]

/-- Settles O34: the one row by what a renderer tick does to the framebuffer, the freezing by the step's own guard. -/
theorem renderingTouchesOneRowAndLcdOffFreezes : Obligations.RenderingTouchesOneRowAndLcdOffFreezes := by
  refine ⟨?_, fun s hoff hlcdc => ?_, fun s h => rendererStep_of_not_frozen ?_⟩
  · intro ram p _ q n
    rw [show q.framebuffer = _ from rendererTick_framebuffer ram p]
    by_cases hleave : p.mode = .pixelTransfer ∧ 171 ≤ p.modeClock
    · rw [if_pos hleave, readRow_setRow]
      by_cases hn : n = p.line.toNat
      · rw [if_pos hn, if_pos ⟨hn, hleave⟩, hn]
      · rw [if_neg hn, if_neg fun h => hn h.1]
    · rw [if_neg hleave, if_neg fun hn => hleave hn.2]
  · have hfrozen : rendererFrozen s = true := by rw [rendererFrozen, hoff, hlcdc]; rfl
    exact if_pos hfrozen
  · obtain h | h := h <;> rw [rendererFrozen, h]
    · rfl
    · exact Bool.and_false _

end Sys2Proof.Machine
end

section
/-! PROOFS. The state at power-on (70_reset_and_hazards.md R400): it meets the invariant that every tick keeps, and it is as
the spec lists it. -/

namespace Sys2Proof.Machine

/-- The power-on renderer, at the start of OamScan on line 0, meets the renderer's invariant. -/
theorem ppuGood_powerOn : PpuGood {} :=
  ppuGood_of_cleared rfl (Nat.zero_le _) (by decide) rfl

/-- Of the invariant only the parts about what is supplied from outside, the RAM and the images, need a premise. -/
theorem State.powerOn_inv {params : Params} {cart : Cart} {ram : Memory} (hram : RamGood ram)
    (hrom : cart.rom.wf = true) (hboot : params.bootImage.wf = true) : (State.powerOn params cart ram).Inv :=
  ⟨show (0 : Byte) &&& 0x0F = 0 from BitVec.zero_and, hram, ppuGood_powerOn, ⟨hrom, hboot⟩, Nat.zero_le 6⟩

/-- Settles O21: reset is a power-on whose RAM and images list no byte. -/
theorem invariantAtPowerOn : Obligations.InvariantAtPowerOn :=
  ⟨State.powerOn_inv ⟨rfl, rfl⟩ rfl rfl, fun _ _ _ => State.powerOn_inv⟩

/-- The boot overlay covers the reset vector: the first opcode byte is the boot image's byte 0 (R54, R400). -/
theorem busPeek_powerOn_pc (params : Params) (cart : Cart) (ramInit : Memory) :
    busPeek true (State.powerOn params cart ramInit) (State.powerOn params cart ramInit).pc =
      some (params.bootImage.read 0) :=
  overlayAndCartridgeAccesses.1 (State.powerOn params cart ramInit) 0x0000 (Nat.zero_le _) rfl

/-- Settles O22: each field by the definition of the power-on state, the byte at the pc by the overlay's rule. -/
theorem powerOnStateIsAsTheSpecLists : Obligations.PowerOnStateIsAsTheSpecLists := by
  intro params cart ramInit s
  have hregs : s.regs = {} := rfl
  have htimer : s.timer = {} := rfl
  have hppu : s.ppu = {} := rfl
  refine ⟨?_, rfl, rfl, rfl, rfl, rfl, rfl, rfl, rfl, rfl, rfl, rfl, ?_, ?_, rfl, rfl, rfl,
    busPeek_powerOn_pc params cart ramInit⟩
  · simp only [hregs, and_self]
  · simp only [htimer, and_self]
  · simp only [hppu, and_self]

end Sys2Proof.Machine
end
